-- ==== Sys2Proof/Word.lean ====
section
/-! DEFINITION. The word types of the BL416: bytes, the 16-bit and 32-bit fields of its frames, part time, counters. -/

namespace Sys2Proof

/-- One byte of a frame, a record or a block. -/
abbrev Byte := BitVec 8

/-- A 16-bit field: sequences, request ids, times in milliseconds (chapter 10). -/
abbrev Word16 := BitVec 16

/-- A 32-bit field (chapter 10). -/
abbrev Word32 := BitVec 32

/-- Part time: a 32-bit count of ticks that wraps at 2^32 (R1). -/
abbrev PartTime := BitVec 32

/-- A statistics counter: a 32-bit count (R170). -/
abbrev Counter := BitVec 32

/-- Number of a field port, FP0 to FP3. -/
abbrev PortNo := Fin 4

/-- Number of a bundle slot, S0 to S15. -/
abbrev SlotNo := Fin 16

/-- Number of a block of the Block Pool, 0 to 511 (R68). -/
abbrev BlockNo := Fin 512

end Sys2Proof
end

