-- ==== Sys2Proof/Config.lean ====
section
/-! DEFINITION. What the part fixes: its capacities (R153), its identity, and the two fixed times. No value is left free (INVENTORY.md). -/

namespace Sys2Proof.Config

/-- Bytes of one Intake FIFO (R16). -/
def fifoBytes : Nat := 512
/-- Bytes of one block (R68). -/
def blockSize : Nat := 128
/-- Descriptors one Emission Queue holds (R78). -/
def emissionPlaces : Nat := 16
/-- Bundles the Retention List holds (R107). -/
def retentionPlaces : Nat := 8
/-- Frames the Control Queue holds (R105). -/
def controlPlaces : Nat := 8
/-- Frames the Control Queue may hold after a frame other than SYNC_ACK is placed (R105: a free place when it holds 6 or fewer). -/
def controlShared : Nat := 7
/-- Entries of the Reply Cache (R139). -/
def cachePlaces : Nat := 4
/-- Records of the Event Queue (R162). -/
def eventPlaces : Nat := 16
/-- Records of one Port Transmit Queue (R127). -/
def portQueuePlaces : Nat := 8
/-- Ticks from the start of a HELLO to the next one falling due (R97). -/
def helloPeriod : PartTime := 100
/-- Ticks a pending reset waits for its reply to start (R156). -/
def resetWait : PartTime := 100
/-- The part's revision (R153). -/
def revision : Byte := 1
/-- What a byte of block storage that nothing has written reads as (DESIGN CHOICE, log 9; unsafe). -/
def unwrittenByte : Byte := 0

end Sys2Proof.Config
end

