-- ==== Sys2Proof/Machine/Codes.lean ====
section
/-! DEFINITION. Byte order, the two frame checks and the codes of chapter 10. -/

namespace Sys2Proof.Machine

/-- A 16-bit field, most significant byte first (section 1.6 (2)). -/
def be16 (w : Word16) : List Byte := [w.extractLsb' 8 8, w.extractLsb' 0 8]

/-- A 32-bit field, most significant byte first. -/
def be32 (w : Word32) : List Byte :=
  [w.extractLsb' 24 8, w.extractLsb' 16 8, w.extractLsb' 8 8, w.extractLsb' 0 8]

/-- The 16-bit field that two received bytes carry. -/
def word16 (hi lo : Byte) : Word16 := hi ++ lo

/-- A count or length as one byte. -/
def byteOf (n : Nat) : Byte := BitVec.ofNat 8 n

/-- A count or length as a 16-bit field. -/
def wordOf (n : Nat) : Word16 := BitVec.ofNat 16 n

/-- A flag coded 0 or 1. -/
def flagByte (b : Bool) : Byte := if b then 1 else 0

/-- `f` applied `n` times. -/
def times {α : Type} (f : α → α) : Nat → α → α
  | 0, a => a
  | n + 1, a => times f n (f a)

/-- One shift of the field frame check register (R175). -/
def crc16Shift (r : Word16) : Word16 := if r.getLsbD 15 then (r <<< 1) ^^^ 0x1021#16 else r <<< 1

/-- The field frame check of a run of bytes (R175). -/
def crc16 (bs : List Byte) : Word16 :=
  bs.foldl (fun r b => times crc16Shift 8 (r ^^^ (b ++ 0#8))) 0xFFFF#16

/-- One shift of the trunk frame check register (R176). -/
def crc32Shift (r : Word32) : Word32 := if r.getLsbD 0 then (r >>> 1) ^^^ 0xEDB88320#32 else r >>> 1

/-- The trunk frame check of a run of bytes, with its final inversion (R176). -/
def crc32 (bs : List Byte) : Word32 :=
  ~~~(bs.foldl (fun r b => times crc32Shift 8 (r ^^^ b.setWidth 32)) 0xFFFFFFFF#32)

/-- A field frame: SOF, the three header bytes, the payload and the check (R175). -/
def fieldFrame (node header1 : Byte) (payload : List Byte) : List Byte :=
  let covered := node :: header1 :: byteOf payload.length :: payload
  0xA6#8 :: (covered ++ be16 (crc16 covered))

/-- A trunk frame: common header, body, check (R176). -/
def trunkFrame (kind : Byte) (unitNumber : BitVec 4) (body : List Byte) : List Byte :=
  let covered := kind :: unitNumber.setWidth 8 :: (be16 (wordOf (body.length + 8)) ++ body)
  covered ++ be32 (crc32 covered)

/-! Kind codes of the frames the concentrator sends (R176). -/
def kindSync : Byte := 0x81
def kindBundleAck : Byte := 0x82
def kindBundleNak : Byte := 0x83
def kindMgmtRequest : Byte := 0x84
def kindDispatch : Byte := 0x85

/-- The kinds the part takes (R101 (3)). -/
def takenKinds : List Byte := [kindSync, kindBundleAck, kindBundleNak, kindMgmtRequest, kindDispatch]

/-! Command codes (R179). -/
def codeIdentify : Byte := 0x01
def codeReadStatus : Byte := 0x02
def codeReadSlots : Byte := 0x03
def codeGetConfig : Byte := 0x04
def codeSetConfig : Byte := 0x05
def codeWriteMatch : Byte := 0x10
def codeReadMatch : Byte := 0x11
def codeCommitMatch : Byte := 0x12
def codeWriteProfile : Byte := 0x13
def codeReadProfile : Byte := 0x14
def codeWriteTemplate : Byte := 0x15
def codeReadTemplate : Byte := 0x16
def codeFlush : Byte := 0x20
def codeQuiesce : Byte := 0x21
def codeResume : Byte := 0x22
def codePortControl : Byte := 0x30
def codeReadPort : Byte := 0x31
def codeReadCounters : Byte := 0x32
def codeResetPart : Byte := 0x3F

/-- The part's command codes: any other code is answered UNKNOWN_COMMAND (R138, R179). -/
def commandCodes : List Byte :=
  [codeIdentify, codeReadStatus, codeReadSlots, codeGetConfig, codeSetConfig, codeWriteMatch, codeReadMatch,
    codeCommitMatch, codeWriteProfile, codeReadProfile, codeWriteTemplate, codeReadTemplate, codeFlush, codeQuiesce,
    codeResume, codePortControl, codeReadPort, codeReadCounters, codeResetPart]

end Sys2Proof.Machine
end

