-- ==== Sys2Proof/Syntax.lean ====
section
/-! DEFINITION. The commands of the block: one constructor per row of spec/opcode_table.json, and the operand records. Management commands carry their parameters as the bytes of R179 and R180, in the order of the frame. -/

namespace Sys2Proof

/-- The class of a bundle, which selects its Emission Queue (R32, R78). -/
inductive BundleClass where
  | express
  | bulk
  deriving DecidableEq, Repr

/-- One entry of a DISPATCH frame as received (R181); its payload length byte is the length of `payload`. -/
structure DispatchEntry where
  port : Byte
  node : Byte
  chanFlags : Byte
  payload : List Byte
  deriving DecidableEq, Repr

/-- The 7-byte match record (R180). -/
structure MatchRecord where
  valid : Byte
  port : Byte
  nodeLow : Byte
  nodeHigh : Byte
  channel : Byte
  action : Byte
  profile : Byte
  deriving DecidableEq, Repr

/-- The 13-byte profile record (R180). -/
structure ProfileRecord where
  valid : Byte
  destination : Word16
  cls : Byte
  recordLimit : Byte
  byteLimit : Word16
  idleTime : Word16
  ageLimit : Word16
  template : Byte
  stamp : Byte
  deriving DecidableEq, Repr

/-- The 13-byte configuration record (R180). -/
structure ConfigRecord where
  paceCount : Byte
  paceWindow : Word16
  ackTimeout : Word16
  retryLimit : Byte
  missAction : Byte
  defaultProfile : Byte
  poolLowMark : Word16
  expressRun : Byte
  eventMask : Word16
  deriving DecidableEq, Repr

/-- The commands: the rows of spec/opcode_table.json. In a management command `id` is the request id. -/
inductive Instr where
  /-- A character arrives on a field port, with its framing indication (R3). -/
  | characterArrival (port : PortNo) (value : Byte) (framing : Bool)
  /-- The byte-gap timer of a port expires (R11). -/
  | byteGapTimerExpiry (port : PortNo)
  | classifierTake
  | idleTimeout (slot : SlotNo)
  | ageTimeout (slot : SlotNo)
  | slotMove (cls : BundleClass)
  | startHistoryAgeing
  | helloStart
  | helloComplete
  | controlFrameStart
  | controlFrameComplete
  | eventFrameStart
  | eventFrameComplete
  | firstTransmissionStart
  | retransmissionStart
  | retryCheckAtLimit
  | bundleTransmissionComplete
  | ackTimerExpiry
  | helloTimerExpiry
  | carrierLoss
  | carrierGain
  /-- The last byte of a frame that fails a reception check has arrived; all its bytes as received (R101). -/
  | trunkFrameDiscard (frame : List Byte)
  | sync
  | bundleAck (seq : Word16)
  | bundleNak (seq : Word16)
  | dispatch (seq : Word16) (entries : List DispatchEntry)
  | fieldFrameComplete (port : PortNo)
  | identify (id : Word16)
  | readStatus (id : Word16)
  | readSlots (id : Word16)
  | getConfig (id : Word16)
  | setConfig (id : Word16) (record : ConfigRecord)
  | writeMatch (id : Word16) (index : Byte) (record : MatchRecord)
  | readMatch (id : Word16) (index bank : Byte)
  | commitMatch (id : Word16)
  | writeProfile (id : Word16) (profile : Byte) (record : ProfileRecord)
  | readProfile (id : Word16) (profile : Byte)
  | writeTemplate (id : Word16) (template length : Byte) (bytes : List Byte)
  | readTemplate (id : Word16) (template : Byte)
  | flush (id : Word16) (profile : Byte)
  | quiesce (id : Word16) (timeout : Word16)
  | resume (id : Word16)
  | portControl (id : Word16) (port enable bitRate maxLen : Byte)
  | readPort (id : Word16) (port : Byte)
  | readCounters (id : Word16) (group port first count clear : Byte)
  | resetPart (id : Word16) (level : Byte)
  /-- A MGMT_REQUEST whose command code is none of the part's, with its parameter part (R138). -/
  | unknownCommand (id : Word16) (code : Byte) (params : List Byte)
  | drainTimerExpiry
  | resetDeadline
  | powerOn
  | resetNAsserted
  /-- RESET_N is high and the supply is good; the strap pins as they stand (R100, R158). -/
  | pinResetComplete (straps : BitVec 4)
  deriving DecidableEq, Repr

end Sys2Proof
end

