-- ==== Sys2Proof/Machine/State.lean ====
section
/-! DEFINITION. Everything the spec gives the machine, as plain data, block by block, and the machine right after reset. Names follow the spec; the rule that names each item is cited. -/

namespace Sys2Proof.Machine

/-- No meaning of this model stops with a fault: the spec describes no condition that stops the part (INVENTORY.md, Faults). -/
inductive Fault where
  deriving DecidableEq, Repr

/-- The reasons a step has no meaning. -/
inductive Refusal where
  /-- Raised by `exec` for a command with no meaning yet (safe); no command is left so. -/
  | notModelled (mnemonic : String)
  deriving DecidableEq, Repr

/-! ### Field ports (chapters 1 and 7) -/

/-- Receive state of a port (section 1.2). -/
inductive RxState where
  | off
  | hunt
  | header
  | payload
  | check
  | discard
  deriving DecidableEq, Repr

/-- The seven bit rates of R2, in the order of their codes (R179). -/
inductive BitRate where
  | r9600
  | r19200
  | r57600
  | r115200
  | r250000
  | r500000
  | r1000000
  deriving DecidableEq, Repr

/-- A record in the form an Intake FIFO holds it: the header bytes and the payload (R16); header byte 2 is the length of `payload`. -/
structure FieldRecord where
  node : Byte
  header1 : Byte
  payload : List Byte
  deriving DecidableEq, Repr

/-- A record of a Port Transmit Queue (R127). -/
structure PortTxRecord where
  node : Byte
  channel : BitVec 4
  urgent : Bool
  endFlag : Bool
  confirm : Bool
  payload : List Byte
  seq : Word16
  index : Nat
  deriving DecidableEq, Repr

/-- The PORT counter group, in index order (R171). -/
structure PortCounters where
  good : Counter
  framing : Counter
  crc : Counter
  length : Counter
  badSource : Counter
  overflow : Counter
  aborted : Counter
  transmitted : Counter
  txAborts : Counter
  txDiscards : Counter
  deriving DecidableEq, Repr

/-- One field port: settings (R2), receiver (R3 to R13), Intake FIFO (R16), transmitter (R127 to R131), counters (R20, R134). -/
structure Port where
  enabled : Bool
  bitRate : BitRate
  maxLen : Byte
  rx : RxState
  byteGapRunning : Bool
  headerCount : Nat
  payloadCount : Nat
  remaining : Nat
  checkHigh : Option Byte
  /-- complete records, oldest first -/
  fifo : List FieldRecord
  /-- the partial record at the FIFO's tail -/
  tail : Option (List Byte)
  txQueue : List PortTxRecord
  /-- none is transmit state IDLE, some is SENDING -/
  sending : Option PortTxRecord
  counters : PortCounters
  deriving DecidableEq, Repr

/-! ### Classifier and its tables (chapter 2) -/

/-- What a match entry does with a record (R25). -/
inductive MatchAction where
  | route (profile : Fin 32)
  | drop
  deriving DecidableEq, Repr

/-- A match entry (R25); none in `port` or `channel` is ANY. -/
structure MatchEntry where
  valid : Bool
  port : Option PortNo
  nodeLow : Byte
  nodeHigh : Byte
  channel : Option (BitVec 4)
  action : MatchAction
  deriving DecidableEq, Repr

/-- A route profile (R32); none in `template` is NONE. -/
structure Profile where
  valid : Bool
  destination : Word16
  cls : BundleClass
  recordLimit : Byte
  byteLimit : Word16
  idleTime : Word16
  ageLimit : Word16
  template : Option (Fin 8)
  stamp : Bool
  deriving DecidableEq, Repr

/-- A record taken from an Intake FIFO, with the port it came from (R8, R22). -/
structure TakenRecord where
  port : PortNo
  record : FieldRecord
  deriving DecidableEq, Repr

/-- The occupied hold stage: a record and the profile id given at its take (R36). -/
structure Held where
  taken : TakenRecord
  profile : Fin 32
  deriving DecidableEq, Repr

/-- The CLASSIFY counter group, in index order (R171). -/
structure ClassifyCounters where
  taken : Counter
  appended : Counter
  missDrops : Counter
  ruleDrops : Counter
  routeInvalid : Counter
  evictions : Counter
  holdEntries : Counter
  deriving DecidableEq, Repr

/-! ### Slot Table (chapter 3) -/

/-- The eleven close causes, in the order of their codes (R49). -/
inductive CloseCause where
  | recordLimit
  | byteLimit
  | endFlag
  | urgent
  | idleTimeout
  | ageTimeout
  | flush
  | evicted
  | quiesce
  | poolEmpty
  | profileChanged
  deriving DecidableEq, Repr

/-- The snapshot a slot takes when it opens (R41). -/
structure Snapshot where
  profile : Fin 32
  destination : Word16
  cls : BundleClass
  recordLimit : Byte
  byteLimit : Word16
  idleTime : Word16
  ageLimit : Word16
  stamp : Bool
  templateLength : Nat
  deriving DecidableEq, Repr

/-- What an OPEN and a CLOSED slot both hold (R40). -/
structure Bundle where
  snapshot : Snapshot
  recordCount : Nat
  bodyBytes : Nat
  openTime : PartTime
  chain : List BlockNo
  lastBytes : Nat
  deriving DecidableEq, Repr

/-- A slot (R40); an IDLE slot's fields have no value. -/
inductive Slot where
  | idle
  | opened (bundle : Bundle) (idleDeadline ageDeadline : Option PartTime)
  | closed (bundle : Bundle) (cause : CloseCause) (queueClass : BundleClass)
  deriving DecidableEq, Repr

/-- The CAUSE counter group (R171): one counter per close cause, then the two of discards. -/
structure CauseCounters where
  recordLimit : Counter
  byteLimit : Counter
  endFlag : Counter
  urgent : Counter
  idleTimeout : Counter
  ageTimeout : Counter
  flush : Counter
  evicted : Counter
  quiesce : Counter
  poolEmpty : Counter
  profileChanged : Counter
  bundlesDiscarded : Counter
  recordsDiscarded : Counter
  deriving DecidableEq, Repr

/-! ### Block Pool (chapter 4) -/

/-- The bytes of block storage: cells at strictly rising addresses, none equal to `Config.unwrittenByte` (log 9). -/
abbrev Memory := List Host.Cell

/-! ### Emission Queues and trunk (chapters 5 and 6) -/

/-- A bundle descriptor (R79). -/
structure Descriptor where
  profile : Fin 32
  destination : Word16
  stamp : Bool
  templateLength : Nat
  recordCount : Nat
  bodyBytes : Nat
  openTime : PartTime
  cause : CloseCause
  queueClass : BundleClass
  chain : List BlockNo
  lastBytes : Nat
  deriving DecidableEq, Repr

/-- An entry of the Retention List (R107). -/
structure Retained where
  desc : Descriptor
  seq : Word16
  retry : Nat
  completed : Bool
  deriving DecidableEq, Repr

/-- Link state (R95). -/
inductive LinkState where
  | offline
  | up
  | stalled
  deriving DecidableEq, Repr

/-- Reset cause (R158). -/
inductive ResetCause where
  | power
  | pin
  | commandFull
  | commandTraffic
  deriving DecidableEq, Repr

/-- The HELLO timer (R97): stopped; running with a HELLO due; running towards its next expiry. -/
inductive HelloTimer where
  | stopped
  | due
  | waiting (deadline : PartTime)
  deriving DecidableEq, Repr

/-- What HELLO and SYNC_ACK carry beside the unit byte (R97, R99). -/
structure HelloFields where
  cause : ResetCause
  revision : Byte
  oldest : Word16
  retained : Nat
  deriving DecidableEq, Repr

/-- Status of a management reply (R138). -/
inductive Status where
  | ok
  | busy
  | badState
  | badParam
  | unknownCommand
  | partialEnd
  deriving DecidableEq, Repr

/-- A MGMT_REPLY (R137). -/
structure MgmtReply where
  id : Word16
  code : Byte
  status : Status
  result : List Byte
  deriving DecidableEq, Repr

/-- Reason of a DISPATCH_NAK (R125). -/
inductive NakReason where
  | gap
  | room
  | entry
  deriving DecidableEq, Repr

/-- The kinds of frame the Control Queue holds (R105); `room` is the room report of ports 0 to 3 (R125). -/
inductive ControlFrame where
  | mgmtReply (reply : MgmtReply)
  | syncAck (fields : HelloFields) (expected : Word16)
  | dispatchAck (seq : Word16) (room : List Nat)
  | dispatchNak (expected : Word16) (reason : NakReason) (index : Nat) (room : List Nat)
  deriving DecidableEq, Repr

/-- A place of the Control Queue; `awaited` marks the reply that a pending reset waits for (R156 (3)). -/
structure ControlEntry where
  frame : ControlFrame
  awaited : Bool
  deriving DecidableEq, Repr

/-- Reason of an UNDELIVERED (R132). -/
inductive UndeliveredReason where
  | portOff
  | length
  deriving DecidableEq, Repr

/-- The nine event kinds with their parameters, in the order of their codes (R161). -/
inductive Event where
  | poolLow (free : Nat)
  | poolExhausted
  | intakeOverflow (port : PortNo)
  | routeMiss (port : PortNo) (node : Byte) (channel : BitVec 4)
  | linkStalled (oldest : Word16) (retry : Nat)
  | linkResynced (retained : Nat)
  | delivered (port : PortNo) (node : Byte) (channel : BitVec 4) (seq : Word16) (index : Nat)
  | undelivered (port : PortNo) (node : Byte) (channel : BitVec 4) (seq : Word16) (index : Nat)
      (reason : UndeliveredReason)
  | drainDiscard (bundles records : Nat)
  deriving DecidableEq, Repr

/-- A record of the Event Queue (R162). -/
structure EventRecord where
  event : Event
  number : Word16
  raiseTime : PartTime
  deriving DecidableEq, Repr

/-- A BUNDLE frame as fixed at its start (R104, R177). -/
structure BundleTx where
  desc : Descriptor
  seq : Word16
  retry : Nat
  retransmit : Bool
  deriving DecidableEq, Repr

/-- The transmission in progress on the trunk (R104). -/
inductive Transmission where
  | hello (fields : HelloFields)
  | control (entry : ControlEntry)
  | event (record : EventRecord) (lost : Word16)
  | bundle (frame : BundleTx)
  deriving DecidableEq, Repr

/-- The TRUNK counter group, in index order (R171). -/
structure TrunkCounters where
  badCheck : Counter
  badLength : Counter
  unknownKind : Counter
  wrongUnit : Counter
  inOffline : Counter
  firstSent : Counter
  retransmissions : Counter
  acks : Counter
  naks : Counter
  strayAck : Counter
  strayNak : Counter
  stalls : Counter
  carrierLosses : Counter
  syncsTaken : Counter
  syncsDropped : Counter
  deriving DecidableEq, Repr

/-- The DISPATCH counter group, in index order (R171). -/
structure DispatchCounters where
  admitted : Counter
  duplicates : Counter
  gapRefusals : Counter
  roomRefusals : Counter
  entryRefusals : Counter
  droppedQueueFull : Counter
  portOffDiscards : Counter
  lengthDiscards : Counter
  deriving DecidableEq, Repr

/-! ### Management Unit (chapter 8) -/

/-- Operating state (R144). -/
inductive OpState where
  | quiesced
  | run
  | draining
  deriving DecidableEq, Repr

/-- An entry of the Reply Cache (R139): IN_PROGRESS while `reply` is none, else DONE. -/
structure CacheEntry where
  id : Word16
  code : Byte
  reply : Option MgmtReply
  deriving DecidableEq, Repr

/-- What a miss does (R28). -/
inductive MissAction where
  | drop
  | toDefault
  deriving DecidableEq, Repr

/-- The global configuration (R151); bit k - 1 of `eventMask` enables the kind of code k (R168). -/
structure GlobalConfig where
  paceCount : Byte
  paceWindow : Word16
  ackTimeout : Word16
  retryLimit : Byte
  missAction : MissAction
  defaultProfile : Fin 32
  poolLowMark : Word16
  expressRun : Byte
  eventMask : BitVec 9
  deriving DecidableEq, Repr

/-- The two levels of RESET_PART (R156). -/
inductive ResetLevel where
  | traffic
  | full
  deriving DecidableEq, Repr

/-- The pending-reset flag when set: level and deadline (R156). -/
structure PendingReset where
  level : ResetLevel
  deadline : PartTime
  deriving DecidableEq, Repr

/-- The MGMT counter group, in index order (R171). -/
structure MgmtCounters where
  executed : Counter
  replays : Counter
  dropped : Counter
  eventsLost : Counter
  deriving DecidableEq, Repr

/-! ### The machine -/

/-- The state of the BL416; the model's own are the queue of commands that wait (`pending`) and the levels that the outside is yet to give the strap pins (`strapChanges`, log 11). -/
structure State where
  -- Timebase, pins, reset hold (R1, R96, R100, R158)
  partTime : PartTime
  carrier : Bool
  straps : BitVec 4
  /-- one level for each tick to come, from the next one on; past the list's end the pins stay -/
  strapChanges : List (BitVec 4)
  supplyGood : Bool
  resetNLow : Bool
  unitNumber : BitVec 4
  -- field ports (chapters 1, 7)
  ports : Vector Port 4
  -- Classifier and tables (chapter 2)
  roundRobin : PortNo
  hold : Option Held
  active : Vector MatchEntry 128
  shadow : Vector MatchEntry 128
  profiles : Vector Profile 32
  templates : Vector (List Byte) 8
  -- Slot Table (chapter 3)
  slots : Vector Slot 16
  openOrder : List SlotNo
  closeExpress : List SlotNo
  closeBulk : List SlotNo
  evictionMark : Option SlotNo
  -- Block Pool (chapter 4)
  blockMem : Memory
  freeList : List BlockNo
  poolLowArmed : Bool
  poolExhaustedArmed : Bool
  minFree : Nat
  allocFailures : Counter
  -- Emission Queues and Pacer (chapter 5)
  expressQueue : List Descriptor
  bulkQueue : List Descriptor
  expressRun : Nat
  startHistory : List PartTime
  -- trunk (chapter 6)
  link : LinkState
  tx : Option Transmission
  controlQueue : List ControlEntry
  retention : List Retained
  retransmitPtr : Option Word16
  ackTimer : Option PartTime
  nextSeq : Word16
  releasedHold : Option (List BlockNo)
  helloTimer : HelloTimer
  -- Dispatch Unit (chapter 7)
  expectedDispatch : Word16
  -- Management Unit (chapter 8)
  opState : OpState
  replyCache : List CacheEntry
  config : GlobalConfig
  drainTimer : Option PartTime
  pendingReset : Option PendingReset
  resetCause : ResetCause
  -- Event Unit (chapter 9)
  eventQueue : List EventRecord
  eventNumber : Word16
  lostEvents : Word16
  intakeArmed : Vector Bool 4
  routeMissArmed : Bool
  -- Counter Bank (R170, R171)
  matchHits : Vector Counter 128
  classify : ClassifyCounters
  causes : CauseCounters
  trunk : TrunkCounters
  dispatchCounters : DispatchCounters
  mgmt : MgmtCounters
  -- the commands that wait, first in, first out
  pending : List Instr
  deriving DecidableEq, Repr

/-! ### Reset values -/

/-- The PORT group after every reset (R170). -/
def PortCounters.zero : PortCounters := ⟨0, 0, 0, 0, 0, 0, 0, 0, 0, 0⟩

/-- A port after a pin or FULL reset (R2, R21, R135). -/
def Port.reset : Port where
  enabled := false
  bitRate := .r115200
  maxLen := 120
  rx := .off
  byteGapRunning := false
  headerCount := 0
  payloadCount := 0
  remaining := 0
  checkHigh := none
  fifo := []
  tail := none
  txQueue := []
  sending := none
  counters := .zero

/-- A match entry after a pin or FULL reset (R25). -/
def MatchEntry.reset : MatchEntry := ⟨false, none, 1, 254, none, .drop⟩

/-- A route profile after a pin or FULL reset (R32). -/
def Profile.reset : Profile := ⟨false, 0, .bulk, 64, 2048, 0, 0, none, false⟩

/-- The global configuration's defaults (R151). -/
def GlobalConfig.defaults : GlobalConfig := ⟨0, 100, 50, 3, .drop, 0, 64, 4, 0x1FF#9⟩

/-- All block numbers, ascending (R69). -/
def allBlocks : List BlockNo := (List.range 512).map (Fin.ofNat 512)

/-- The machine right after reset: a completed pin reset after power-on, no carrier, straps 0 (logs 10, 11). -/
def State.reset : State where
  partTime := 0
  carrier := false
  straps := 0
  strapChanges := []
  supplyGood := true
  resetNLow := false
  unitNumber := 0
  ports := Vector.replicate 4 Port.reset
  roundRobin := 0
  hold := none
  active := Vector.replicate 128 MatchEntry.reset
  shadow := Vector.replicate 128 MatchEntry.reset
  profiles := Vector.replicate 32 Profile.reset
  templates := Vector.replicate 8 []
  slots := Vector.replicate 16 Slot.idle
  openOrder := []
  closeExpress := []
  closeBulk := []
  evictionMark := none
  blockMem := []
  freeList := allBlocks
  poolLowArmed := true
  poolExhaustedArmed := true
  minFree := 512
  allocFailures := 0
  expressQueue := []
  bulkQueue := []
  expressRun := 0
  startHistory := []
  link := .offline
  tx := none
  controlQueue := []
  retention := []
  retransmitPtr := none
  ackTimer := none
  nextSeq := 0
  releasedHold := none
  helloTimer := .stopped
  expectedDispatch := 0
  opState := .quiesced
  replyCache := []
  config := .defaults
  drainTimer := none
  pendingReset := none
  resetCause := .power
  eventQueue := []
  eventNumber := 0
  lostEvents := 0
  intakeArmed := Vector.replicate 4 true
  routeMissArmed := true
  matchHits := Vector.replicate 128 0
  classify := ⟨0, 0, 0, 0, 0, 0, 0⟩
  causes := ⟨0, 0, 0, 0, 0, 0, 0, 0, 0, 0, 0, 0, 0⟩
  trunk := ⟨0, 0, 0, 0, 0, 0, 0, 0, 0, 0, 0, 0, 0, 0, 0⟩
  dispatchCounters := ⟨0, 0, 0, 0, 0, 0, 0, 0⟩
  mgmt := ⟨0, 0, 0, 0⟩
  pending := []

end Sys2Proof.Machine
end

