-- ==== Sys2Proof/Machine/Memory.lean ====
section
/-! DEFINITION. Block storage: its canonical form, one read and one write of a byte, and the run of content bytes in a chain (R71). -/

namespace Sys2Proof.Machine

/-- The byte at an address; an address not listed reads as `Config.unwrittenByte` (log 9). -/
def Memory.read : Memory → Nat → Byte
  | [], _ => Config.unwrittenByte
  | (k, v) :: rest, a => if a = k then v else Memory.read rest a

/-- Write a byte, keeping addresses strictly rising and no cell equal to what an unlisted address reads as. -/
def Memory.write : Memory → Nat → Byte → Memory
  | [], a, b => if b = Config.unwrittenByte then [] else [(a, b)]
  | (k, v) :: rest, a, b =>
    if a < k then (if b = Config.unwrittenByte then (k, v) :: rest else (a, b) :: (k, v) :: rest)
    else if a = k then (if b = Config.unwrittenByte then rest else (a, b) :: rest)
    else (k, v) :: Memory.write rest a b

/-- The canonical form: addresses strictly rising, no cell holding the byte an unlisted address reads as. -/
def Memory.wf : Memory → Bool
  | [] => true
  | [(_, v)] => decide (v ≠ Config.unwrittenByte)
  | (k, v) :: (k', v') :: rest =>
    decide (k < k') && decide (v ≠ Config.unwrittenByte) && Memory.wf ((k', v') :: rest)

/-- The storage address of content byte `k` of a chain: block at position k / 128, offset k mod 128 (R71). -/
def contentAddr (chain : List BlockNo) (k : Nat) : Nat :=
  (chain.getD (k / Config.blockSize) 0).val * Config.blockSize + k % Config.blockSize

/-- Write a run of content bytes from content byte `start` of a chain on (R71). -/
def writeContent (m : Memory) (chain : List BlockNo) (start : Nat) : List Byte → Memory
  | [] => m
  | b :: bs => writeContent (m.write (contentAddr chain start) b) chain (start + 1) bs

/-- The first `n` content bytes of a chain, in content order (R71). -/
def readContent (m : Memory) (chain : List BlockNo) (n : Nat) : List Byte :=
  (List.range n).map fun k => m.read (contentAddr chain k)

end Sys2Proof.Machine
end

