-- ==== Sys2Proof/Machine/Ops.lean ====
section
/-! DEFINITION. The named operations the meanings share: part time and sequence comparison, counters, access to ports, slots, lists and queues, and when a command reaches the part at all. -/

namespace Sys2Proof.Machine

/-! ### Time and sequences (R1) -/

/-- Part time `now` has come to `deadline`, modulo 2^32 (section 1.6 (4), R1; log 3). -/
def reached (now deadline : PartTime) : Bool := decide ((now - deadline).toNat < 2 ^ 31)

/-- The deadline of a timer of `len` ticks started at `now`; a length of 0 disables it (R45, R46). -/
def deadlineAfter (now : PartTime) (len : Word16) : Option PartTime :=
  if len = 0 then none else some (now + len.setWidth 32)

/-- The three cases of the comparison of sequence values (R1 (2)). -/
inductive SeqCase where
  | equal
  | behind
  | ahead
  deriving DecidableEq, Repr

/-- Where `value` falls against `reference` (R1 (2)). -/
def seqCase (reference value : Word16) : SeqCase :=
  let d := (value - reference).toNat
  if d = 0 then .equal else if d ≤ 32767 then .ahead else .behind

/-! ### Counters (R170, R166) -/

/-- Increment of a statistics counter; a saturated one stays (R170). -/
def bump (c : Counter) : Counter := if c = 0xFFFFFFFF#32 then c else c + 1

/-- One increment for each of `n` items (R170). -/
def bumpBy (c : Counter) (n : Nat) : Counter := times bump n c

/-- A rise of the lost-event count, which stops at 65535 (R166). -/
def raiseLost (c : Word16) (n : Nat) : Word16 :=
  if c.toNat + n ≤ 65535 then BitVec.ofNat 16 (c.toNat + n) else 65535

/-! ### Numbered places -/

/-- Ports in ascending number. -/
def portNos : List PortNo := [0, 1, 2, 3]

/-- Slots in ascending number. -/
def slotNos : List SlotNo := [0, 1, 2, 3, 4, 5, 6, 7, 8, 9, 10, 11, 12, 13, 14, 15]

/-- Match Table indexes, ascending. -/
def matchNos : List (Fin 128) := (List.range 128).map (Fin.ofNat 128)

/-- Replace one port. -/
def State.setPort (s : State) (p : PortNo) (port : Port) : State :=
  { s with ports := s.ports.set p.val port p.isLt }

/-- Change one port. -/
def State.modPort (s : State) (p : PortNo) (f : Port → Port) : State := s.setPort p (f s.ports[p])

/-- Replace one slot. -/
def State.setSlot (s : State) (n : SlotNo) (slot : Slot) : State :=
  { s with slots := s.slots.set n.val slot n.isLt }

/-- The Close Order List of a class (R51). -/
def State.closeOrder (s : State) : BundleClass → List SlotNo
  | .express => s.closeExpress
  | .bulk => s.closeBulk

/-- Replace the Close Order List of a class. -/
def State.setCloseOrder (s : State) (c : BundleClass) (l : List SlotNo) : State :=
  match c with
  | .express => { s with closeExpress := l }
  | .bulk => { s with closeBulk := l }

/-- The Emission Queue of a class (R78). -/
def State.queue (s : State) : BundleClass → List Descriptor
  | .express => s.expressQueue
  | .bulk => s.bulkQueue

/-- Replace the Emission Queue of a class. -/
def State.setQueue (s : State) (c : BundleClass) (l : List Descriptor) : State :=
  match c with
  | .express => { s with expressQueue := l }
  | .bulk => { s with bulkQueue := l }

/-- Place a frame at the tail of the Control Queue (R105). -/
def State.placeControl (s : State) (e : ControlEntry) : State := { s with controlQueue := s.controlQueue ++ [e] }

/-- A MGMT_REPLY, DISPATCH_ACK or DISPATCH_NAK has a free place: 6 frames or fewer (R105). -/
def State.controlRoom (s : State) : Bool := decide (s.controlQueue.length < Config.controlShared)

/-- A SYNC_ACK has a free place: 7 frames or fewer (R105). -/
def State.syncAckRoom (s : State) : Bool := decide (s.controlQueue.length < Config.controlPlaces)

/-- Free places of a Port Transmit Queue (R123). -/
def Port.freePlaces (port : Port) : Nat := Config.portQueuePlaces - port.txQueue.length

/-- The room report: free places of ports 0 to 3 (R125). -/
def State.roomReport (s : State) : List Nat := portNos.map fun p => s.ports[p].freePlaces

/-! ### Fields of a record's header byte 1 (R175) -/

/-- Channel: bits 7 to 4. -/
def FieldRecord.channel (r : FieldRecord) : BitVec 4 := r.header1.extractLsb' 4 4
/-- URGENT: bit 0. -/
def FieldRecord.urgent (r : FieldRecord) : Bool := r.header1.getLsbD 0
/-- END: bit 1. -/
def FieldRecord.endFlag (r : FieldRecord) : Bool := r.header1.getLsbD 1
/-- Bytes the record takes in its Intake FIFO: 3 + L (R16). -/
def FieldRecord.size (r : FieldRecord) : Nat := 3 + r.payload.length

/-- Used bytes of a port's Intake FIFO: complete records and the partial one (R16). -/
def Port.usedBytes (port : Port) : Nat := (port.fifo.map FieldRecord.size).sum + (port.tail.getD []).length

/-! ### When a command reaches the part -/

/-- The part is held in reset: RESET_N low or the supply not good (R158). -/
def State.held (s : State) : Bool := s.resetNLow || !s.supplyGood

/-- A step of the part: nothing comes about while it is held in reset (R158; log 12). -/
def live (s : State) (f : State → State) : Host.Outcome State Fault Refusal := .next (if s.held then s else f s)

/-- A frame of another kind than SYNC that has passed checks (1) to (5) of R101: taken when carrier is present and the link is not OFFLINE, counted under check (6) in OFFLINE (R101, R102; log 6). -/
def received (s : State) (f : State → State) : State :=
  if !s.carrier then s
  else if s.link = .offline then { s with trunk := { s.trunk with inOffline := bump s.trunk.inOffline } }
  else f s

/-- A frame that breaks the length rule of its kind, check (4) of R101 (log 6). -/
def countBadLength (s : State) : State :=
  if !s.carrier then s else { s with trunk := { s.trunk with badLength := bump s.trunk.badLength } }

end Sys2Proof.Machine
end

