-- ==== Sys2Proof/Machine/Flags.lean ====
section
/-! DEFINITION. The raising of events (R161 to R164) and the armed flags (R19, R29, R73). -/

namespace Sys2Proof.Machine

/-- Kind code of an event (R161). -/
def Event.code : Event → Nat
  | .poolLow _ => 1
  | .poolExhausted => 2
  | .intakeOverflow _ => 3
  | .routeMiss _ _ _ => 4
  | .linkStalled _ _ => 5
  | .linkResynced _ => 6
  | .delivered _ _ _ _ _ => 7
  | .undelivered _ _ _ _ _ _ => 8
  | .drainDiscard _ _ => 9

/-- EVENT_MASK enables the kind of an event: bit k - 1 for code k (R168, R180). -/
def GlobalConfig.enables (c : GlobalConfig) (e : Event) : Bool := c.eventMask.getLsbD (e.code - 1)

/-- An event reaches the Event Unit: masked, queued or dropped (R163). -/
def raise (s : State) (e : Event) : State :=
  if !s.config.enables e then s
  else if s.eventQueue.length < Config.eventPlaces then
    { s with
      eventQueue := s.eventQueue ++ [⟨e, s.eventNumber, s.partTime⟩]
      eventNumber := s.eventNumber + 1 }
  else
    { s with
      lostEvents := raiseLost s.lostEvents 1
      mgmt := { s.mgmt with eventsLost := bump s.mgmt.eventsLost } }

/-- An OVERFLOW ending reports once while the port's flag is armed (R19). -/
def reportOverflow (s : State) (p : PortNo) : State :=
  if s.intakeArmed[p] then
    raise { s with intakeArmed := s.intakeArmed.set p.val false p.isLt } (.intakeOverflow p)
  else s

/-- A miss reports once while the flag is armed, under either MISS_ACTION (R29). -/
def reportMiss (s : State) (t : TakenRecord) : State :=
  if s.routeMissArmed then
    raise { s with routeMissArmed := false } (.routeMiss t.port t.record.node t.record.channel)
  else s

/-- The POOL_LOW check after a grant (R73). -/
def checkPoolLow (s : State) : State :=
  if s.poolLowArmed && decide (s.freeList.length ≤ s.config.poolLowMark.toNat) then
    raise { s with poolLowArmed := false } (.poolLow s.freeList.length)
  else s

/-- The POOL_EXHAUSTED check after a refusal (R73). -/
def checkPoolExhausted (s : State) : State :=
  if s.poolExhaustedArmed then raise { s with poolExhaustedArmed := false } .poolExhausted else s

/-- The re-arm check of both pool flags after a return (R73). -/
def rearmPool (s : State) : State :=
  if s.config.poolLowMark.toNat < s.freeList.length then
    { s with poolLowArmed := true, poolExhaustedArmed := true }
  else s

end Sys2Proof.Machine
end

