-- ==== Sys2Proof/Machine/Placement.lean ====
section
/-! DEFINITION. The Block Pool's grants and returns (R70, R72), closes (R48, R49), the placement of a record (R34, R54 to R58), the trials of a held record (R59), and the discard of closed slots (R64). -/

namespace Sys2Proof.Machine

/-! ### Grants and returns -/

/-- A request for `k` blocks: granted whole from the head of the Free List, or refused whole (R70, R73). -/
def grant (s : State) (k : Nat) : State × Option (List BlockNo) :=
  if k ≤ s.freeList.length then
    (checkPoolLow
      { s with
        freeList := s.freeList.drop k
        minFree := min s.minFree (s.freeList.length - k) },
      some (s.freeList.take k))
  else
    (checkPoolExhausted { s with allocFailures := bump s.allocFailures }, none)

/-- A return: the chain joins the tail of the Free List in chain order, then the re-arm check (R72, R73). -/
def returnChain (s : State) (chain : List BlockNo) : State :=
  rearmPool { s with freeList := s.freeList ++ chain }

/-! ### Closing a slot -/

/-- The queue class a close records: EXPRESS for URGENT, else the snapshot class (R48 (2)). -/
def queueClassOf (b : Bundle) (cause : CloseCause) : BundleClass :=
  match cause with
  | .urgent => .express
  | _ => b.snapshot.cls

/-- The CAUSE counter of a close cause is incremented (R48 (5)). -/
def CauseCounters.countClose (c : CauseCounters) : CloseCause → CauseCounters
  | .recordLimit => { c with recordLimit := bump c.recordLimit }
  | .byteLimit => { c with byteLimit := bump c.byteLimit }
  | .endFlag => { c with endFlag := bump c.endFlag }
  | .urgent => { c with urgent := bump c.urgent }
  | .idleTimeout => { c with idleTimeout := bump c.idleTimeout }
  | .ageTimeout => { c with ageTimeout := bump c.ageTimeout }
  | .flush => { c with flush := bump c.flush }
  | .evicted => { c with evicted := bump c.evicted }
  | .quiesce => { c with quiesce := bump c.quiesce }
  | .poolEmpty => { c with poolEmpty := bump c.poolEmpty }
  | .profileChanged => { c with profileChanged := bump c.profileChanged }

/-- A claim to close a slot: takes effect only while the slot is OPEN, else void (R47, R48). -/
def closeSlot (s : State) (n : SlotNo) (cause : CloseCause) : State :=
  match s.slots[n] with
  | .opened b _ _ =>
    let cls := queueClassOf b cause
    let s := s.setSlot n (.closed b cause cls)
    let s := s.setCloseOrder cls (s.closeOrder cls ++ [n])
    { s with openOrder := s.openOrder.erase n, causes := s.causes.countClose cause }
  | _ => s

/-- Close every OPEN slot in the order of the Open Order List, oldest first (R60 (2), R61). -/
def closeAll (s : State) (cause : CloseCause) : State :=
  s.openOrder.foldl (fun s n => closeSlot s n cause) s

/-! ### Entries -/

/-- Size of an entry: 4 + L, or 6 + L with a stamp (R42). -/
def entrySize (stamp : Bool) (payloadLength : Nat) : Nat :=
  if stamp then 6 + payloadLength else 4 + payloadLength

/-- The stamp: part time less open time, saturated at 65535 (R42 (2)). -/
def stampOf (now openTime : PartTime) : Word16 :=
  if (now - openTime).toNat ≤ 65535 then (now - openTime).setWidth 16 else 65535

/-- The bytes of an entry: header, optional stamp, payload (R42, R177). -/
def entryBytes (t : TakenRecord) (index : Nat) (stamp : Option Word16) : List Byte :=
  [BitVec.ofNat 2 t.port.val ++ BitVec.ofBool t.record.urgent ++ BitVec.ofBool t.record.endFlag ++ t.record.channel,
    t.record.node, byteOf t.record.payload.length, byteOf index]
    ++ (match stamp with | some w => be16 w | none => []) ++ t.record.payload

/-- Content length of a bundle's chain: template length plus body bytes (R71). -/
def Bundle.contentLength (b : Bundle) : Nat := b.snapshot.templateLength + b.bodyBytes

/-! ### Placement -/

/-- How a placement attempt ends (R54). -/
inductive PlaceResult where
  | appended
  | wait
  | invalid
  deriving DecidableEq, Repr

/-- The OPEN slot of a profile id, if there is one, with its bundle and age deadline (R52, R54). -/
def State.openSlotOf (s : State) (p : Fin 32) : Option (SlotNo × Bundle × Option PartTime) :=
  slotNos.findSome? fun n =>
    match s.slots[n] with
    | .opened b _ age => if b.snapshot.profile = p then some (n, b, age) else none
    | _ => none

/-- The lowest-numbered IDLE slot (R56). -/
def State.lowestIdle (s : State) : Option SlotNo := slotNos.find? fun n => s.slots[n] = .idle

/-- The post-append checks, in their order: URGENT, END, record limit (R49). -/
def postAppend (s : State) (n : SlotNo) (t : TakenRecord) : State :=
  if t.record.urgent then closeSlot s n .urgent
  else if t.record.endFlag then closeSlot s n .endFlag
  else match s.slots[n] with
    | .opened b _ _ => if b.recordCount = b.snapshot.recordLimit.toNat then closeSlot s n .recordLimit else s
    | _ => s

/-- Write the entry at the end of the chain, with the block granted for it if one was needed, and bring the slot up to date (R55 (2) to (5)). -/
def appendEntry (s : State) (n : SlotNo) (b : Bundle) (age : Option PartTime) (t : TakenRecord)
    (blocks : List BlockNo) : State :=
  let stamp := if b.snapshot.stamp then some (stampOf s.partTime b.openTime) else none
  let size := entrySize b.snapshot.stamp t.record.payload.length
  let chain := b.chain ++ blocks
  let b' : Bundle :=
    { b with
      recordCount := b.recordCount + 1
      bodyBytes := b.bodyBytes + size
      chain := chain
      lastBytes := if blocks = [] then b.lastBytes + size else size - (Config.blockSize - b.lastBytes) }
  let s : State :=
    { s with blockMem := writeContent s.blockMem chain b.contentLength (entryBytes t b.recordCount stamp) }
  postAppend (s.setSlot n (.opened b' (deadlineAfter s.partTime b.snapshot.idleTime) age)) n t

/-- The template bytes a profile's bundles open with (R35, R41). -/
def State.templateBytes (s : State) (p : Profile) : List Byte :=
  match p.template with
  | none => []
  | some i => s.templates[i]

/-- Open an IDLE slot with its first entry, the blocks being granted (R56 (3) to (7)). -/
def openSlot (s : State) (n : SlotNo) (p : Fin 32) (t : TakenRecord) (blocks : List BlockNo) : State :=
  let prof := s.profiles[p]
  let template := s.templateBytes prof
  let size := entrySize prof.stamp t.record.payload.length
  let stamp : Option Word16 := if prof.stamp then some 0 else none
  let b : Bundle :=
    { snapshot :=
        { profile := p
          destination := prof.destination
          cls := prof.cls
          recordLimit := prof.recordLimit
          byteLimit := prof.byteLimit
          idleTime := prof.idleTime
          ageLimit := prof.ageLimit
          stamp := prof.stamp
          templateLength := template.length }
      recordCount := 1
      bodyBytes := size
      openTime := s.partTime
      chain := blocks
      lastBytes := template.length + size - Config.blockSize * (blocks.length - 1) }
  let s : State :=
    { s with
      blockMem := writeContent s.blockMem blocks 0 (template ++ entryBytes t 0 stamp)
      openOrder := s.openOrder ++ [n] }
  postAppend (s.setSlot n (.opened b (deadlineAfter s.partTime prof.idleTime) (deadlineAfter s.partTime prof.ageLimit)))
    n t

/-- Start an eviction when no mark is set and a slot is OPEN: the head of the Open Order List closes (R57). -/
def startEviction (s : State) : State :=
  match s.evictionMark, s.openOrder with
  | none, n :: _ =>
    let s := closeSlot s n .evicted
    { s with
      evictionMark := some n
      classify := { s.classify with evictions := bump s.classify.evictions } }
  | _, _ => s

/-- Blocks the template bytes and the first entry need at an opening (R44 (1)). -/
def openNeed (s : State) (prof : Profile) (t : TakenRecord) : Nat :=
  if (s.templateBytes prof).length + entrySize prof.stamp t.record.payload.length ≤ Config.blockSize then 1 else 2

/-- Case (c) of R54: no OPEN slot for the profile id (R56, R57). -/
def placeNew (s : State) (p : Fin 32) (t : TakenRecord) : State × PlaceResult :=
  match s.lowestIdle with
  | some n =>
    match grant s (openNeed s s.profiles[p] t) with
    | (s', some blocks) => (openSlot s' n p t blocks, .appended)
    | (s', none) => (s', .wait)
  | none => (startEviction s, .wait)

/-- The cases of R54 for a record whose profile is valid. -/
def placeValid (s : State) (p : Fin 32) (t : TakenRecord) : State × PlaceResult :=
  match s.openSlotOf p with
  | none => placeNew s p t
  | some (n, b, age) =>
    let size := entrySize b.snapshot.stamp t.record.payload.length
    if b.snapshot.byteLimit.toNat < b.bodyBytes + size then
      placeNew (closeSlot s n .byteLimit) p t
    else if size ≤ Config.blockSize - b.lastBytes then
      (appendEntry s n b age t [], .appended)
    else match grant s 1 with
      | (s', some blocks) => (appendEntry s' n b age t blocks, .appended)
      | (s', none) => (closeSlot s' n .poolEmpty, .wait)

/-- One placement attempt, with the count of its outcome (R34, R37, R54). -/
def place (s : State) (p : Fin 32) (t : TakenRecord) : State × PlaceResult :=
  if s.profiles[p].valid then
    match placeValid s p t with
    | (s', .appended) =>
      ({ s' with classify := { s'.classify with appended := bump s'.classify.appended } }, .appended)
    | r => r
  else
    ({ s with classify := { s.classify with routeInvalid := bump s.classify.routeInvalid } }, .invalid)

/-- A trigger of R59: in RUN a held record is tried once more; when it leaves, the hold stage is empty and the eviction mark cleared (R36, R57 (2)). -/
def tryHeld (s : State) : State :=
  match s.opState, s.hold with
  | .run, some h =>
    match place s h.profile h.taken with
    | (s', .wait) => s'
    | (s', _) => { s' with hold := none, evictionMark := none }
  | _, _ => s

/-- A return of blocks, passed on as a trigger (R72). -/
def giveBack (s : State) (chain : List BlockNo) : State := tryHeld (returnChain s chain)

/-! ### Discard of closed slots (R64) -/

/-- Discard one CLOSED slot: chain returned, slot IDLE and out of its list, discards counted, mark cleared. -/
def discardSlot (s : State) (n : SlotNo) : State :=
  match s.slots[n] with
  | .closed b _ cls =>
    let s := giveBack s b.chain
    let s := s.setCloseOrder cls ((s.closeOrder cls).erase n)
    let s := s.setSlot n .idle
    { s with
      evictionMark := if s.evictionMark = some n then none else s.evictionMark
      causes :=
        { s.causes with
          bundlesDiscarded := bump s.causes.bundlesDiscarded
          recordsDiscarded := bumpBy s.causes.recordsDiscarded b.recordCount } }
  | _ => s

/-- Records of a CLOSED slot. -/
def Slot.closedRecords : Slot → Nat
  | .closed b _ _ => b.recordCount
  | _ => 0

/-- Discard every CLOSED slot: the EXPRESS Close Order List from its head, then the BULK one. -/
def discardClosed (s : State) : State := (s.closeExpress ++ s.closeBulk).foldl discardSlot s

/-- The numbers of bundles and of records that the discard reports. -/
def discardTotals (s : State) : Nat × Nat :=
  let l := s.closeExpress ++ s.closeBulk
  (l.length, (l.map fun n => s.slots[n].closedRecords).sum)

end Sys2Proof.Machine
end

