-- ==== Sys2Proof/Machine/Classifier.lean ====
section
/-! DEFINITION. CLASSIFIER_TAKE: the readiness and round-robin choice of the Classifier, the lookup in the ACTIVE bank, the handling of its result (R22 to R29, R36). -/

namespace Sys2Proof.Machine

/-- The ports in the order the Classifier looks at them (R22). -/
def lookOrder (first : PortNo) : List PortNo := [first, first + 1, first + 2, first + 3]

/-- The port whose oldest complete record is taken, with the record and the rest of its FIFO; none when the Classifier is not ready (R22). -/
def State.nextTake (s : State) : Option (PortNo × FieldRecord × List FieldRecord) :=
  if s.opState = .run ∧ s.hold = none then
    (lookOrder s.roundRobin).findSome? fun p =>
      match s.ports[p].fifo with
      | [] => none
      | r :: rest => some (p, r, rest)
  else none

/-- A match entry matches a record (R26). -/
def MatchEntry.hits (e : MatchEntry) (t : TakenRecord) : Bool :=
  e.valid && (match e.port with | none => true | some p => p == t.port)
    && decide (e.nodeLow.toNat ≤ t.record.node.toNat) && decide (t.record.node.toNat ≤ e.nodeHigh.toNat)
    && (match e.channel with | none => true | some c => c == t.record.channel)

/-- The first matching index of the ACTIVE bank, ascending (R26). -/
def State.lookup (s : State) (t : TakenRecord) : Option (Fin 128) := matchNos.find? fun i => s.active[i].hits t

/-- Hand a record for its first placement attempt; if it must wait it enters the hold stage (R24 (4), R36 (1)). -/
def handOver (s : State) (p : Fin 32) (t : TakenRecord) : State :=
  match place s p t with
  | (s', .wait) =>
    { s' with
      hold := some ⟨t, p⟩
      classify := { s'.classify with holdEntries := bump s'.classify.holdEntries } }
  | (s', _) => s'

/-- A hit: counted at its index, then dropped or handed over (R27). -/
def handleHit (s : State) (i : Fin 128) (t : TakenRecord) : State :=
  let s : State := { s with matchHits := s.matchHits.set i.val (bump s.matchHits[i]) i.isLt }
  match s.active[i].action with
  | .drop => { s with classify := { s.classify with ruleDrops := bump s.classify.ruleDrops } }
  | .route p => handOver s p t

/-- A miss: reported while armed, then handled by MISS_ACTION (R28, R29). -/
def handleMiss (s : State) (t : TakenRecord) : State :=
  let s := reportMiss s t
  match s.config.missAction with
  | .drop => { s with classify := { s.classify with missDrops := bump s.classify.missDrops } }
  | .toDefault => handOver s s.config.defaultProfile t

/-- A take, handled whole (R22, R24). -/
def classifierTake (s : State) : State :=
  match s.nextTake with
  | none => s
  | some (p, r, rest) =>
    let t : TakenRecord := ⟨p, r⟩
    let s := s.modPort p fun port => { port with fifo := rest }
    let s : State :=
      { s with
        roundRobin := p + 1
        classify := { s.classify with taken := bump s.classify.taken } }
    match s.lookup t with
    | some i => handleHit s i t
    | none => handleMiss s t

/-- CLASSIFIER_TAKE (R24). -/
def execClassifierTake (s : State) : Host.Outcome State Fault Refusal := live s classifierTake

end Sys2Proof.Machine
end

