-- ==== Sys2Proof/Machine/FieldPorts.lean ====
section
/-! DEFINITION. The field ports: a character taken by the receiver, the byte-gap timer, the enable and disable of a port, the field port transmitter (R3 to R19, R128 to R131). -/

namespace Sys2Proof.Machine

/-! ### Receiver -/

/-- The receiver in HUNT or OFF: no count, no partial record, timer stopped (R4, R11 (2)). -/
def Port.settle (port : Port) (rx : RxState) : Port :=
  { port with
    rx := rx
    byteGapRunning := false
    headerCount := 0
    payloadCount := 0
    remaining := 0
    checkHigh := none
    tail := none }

/-- The receiver in DISCARD with a remaining-byte count; the partial record is reclaimed and the timer runs on (R12). -/
def Port.startDiscard (port : Port) (remaining : Nat) : Port :=
  { port with
    rx := .discard
    byteGapRunning := true
    headerCount := 0
    payloadCount := 0
    remaining := remaining
    checkHigh := none
    tail := none }

/-- An SOF: HEADER, timer started, an empty partial record begun (R5 (3)). -/
def Port.startFrame (port : Port) : Port :=
  { port with
    rx := .header
    byteGapRunning := true
    headerCount := 0
    payloadCount := 0
    remaining := 0
    checkHigh := none
    tail := some [] }

/-- The receive error counters of R12. -/
inductive RxError where
  | framing
  | crc
  | length
  | badSource
  | overflow
  | aborted
  deriving DecidableEq, Repr

/-- Count an error of reception, or a frame cut by disable (R12 (2), R15). -/
def PortCounters.countError (c : PortCounters) : RxError → PortCounters
  | .framing => { c with framing := bump c.framing }
  | .crc => { c with crc := bump c.crc }
  | .length => { c with length := bump c.length }
  | .badSource => { c with badSource := bump c.badSource }
  | .overflow => { c with overflow := bump c.overflow }
  | .aborted => { c with aborted := bump c.aborted }

/-- Count an error in a port's group. -/
def Port.countError (port : Port) (e : RxError) : Port := { port with counters := port.counters.countError e }

/-- Reception ends with an error and the receiver moves to HUNT (R12). -/
def Port.failToHunt (port : Port) (e : RxError) : Port := (port.countError e).settle .hunt

/-- Reception ends with an error and the receiver moves to DISCARD (R12). -/
def Port.failToDiscard (port : Port) (e : RxError) (remaining : Nat) : Port :=
  (port.countError e).startDiscard remaining

/-- A byte can be written: at least one of the 512 bytes is free (R16). -/
def Port.hasRoom (port : Port) : Bool := decide (port.usedBytes < Config.fifoBytes)

/-- Write a byte at the tail of the partial record (R16). -/
def Port.writeByte (port : Port) (v : Byte) : Port := { port with tail := some (port.tail.getD [] ++ [v]) }

/-- The declared length of the frame in reception: header byte 2, as written (R6). -/
def Port.declared (port : Port) : Nat := ((port.tail.getD []).getD 2 0).toNat

/-- OVERFLOW at a header byte: DISCARD when the byte is the length byte, which has then arrived (R12, R16). -/
def overflowAtHeader (s : State) (p : PortNo) (v : Byte) : State :=
  let s := s.modPort p fun port =>
    if port.headerCount = 2 then port.failToDiscard .overflow (v.toNat + 2) else port.failToHunt .overflow
  reportOverflow s p

/-- A header byte that has passed its check is written (R6, R16). -/
def writeHeader (s : State) (p : PortNo) (v : Byte) : State :=
  if !s.ports[p].hasRoom then overflowAtHeader s p v
  else s.modPort p fun port =>
    let port : Port := { port.writeByte v with headerCount := port.headerCount + 1, byteGapRunning := true }
    if port.headerCount < 3 then port
    else if v = 0 then { port with rx := .check } else { port with rx := .payload }

/-- A byte in HEADER, without the framing indication: its check comes before its write (R6). -/
def takeHeader (s : State) (p : PortNo) (v : Byte) : State :=
  let port := s.ports[p]
  if port.headerCount = 0 then
    if v = 0 ∨ v = 255 then s.setPort p (port.failToHunt .badSource) else writeHeader s p v
  else if port.headerCount = 1 then
    if v.getLsbD 3 ∨ v.getLsbD 2 then s.setPort p (port.failToHunt .length) else writeHeader s p v
  else
    if port.maxLen.toNat < v.toNat then s.setPort p (port.failToDiscard .length (v.toNat + 2))
    else writeHeader s p v

/-- A byte in PAYLOAD, without the framing indication (R7, R16); on OVERFLOW the byte counts as received (R12). -/
def takePayload (s : State) (p : PortNo) (v : Byte) : State :=
  let port := s.ports[p]
  if !port.hasRoom then
    reportOverflow
      (s.setPort p (port.failToDiscard .overflow (port.declared - (port.payloadCount + 1) + 2))) p
  else
    let port : Port := { port.writeByte v with payloadCount := port.payloadCount + 1, byteGapRunning := true }
    s.setPort p (if port.payloadCount = port.declared then { port with rx := .check } else port)

/-- The record that the bytes of a partial record make (R16). -/
def recordOf (bytes : List Byte) : FieldRecord := ⟨bytes.getD 0 0, bytes.getD 1 0, bytes.drop 3⟩

/-- A byte in CHECK, without the framing indication: the first is held, the second decides (R8). -/
def takeCheck (s : State) (p : PortNo) (v : Byte) : State :=
  let port := s.ports[p]
  match port.checkHigh with
  | none => s.setPort p { port with checkHigh := some v, byteGapRunning := true }
  | some hi =>
    let bytes := port.tail.getD []
    if word16 hi v = crc16 bytes then
      s.setPort p
        (Port.settle
          { port with
            fifo := port.fifo ++ [recordOf bytes]
            counters := { port.counters with good := bump port.counters.good } } .hunt)
    else s.setPort p (port.failToHunt .crc)

/-- A byte in DISCARD, without the framing indication (R13). -/
def takeDiscard (s : State) (p : PortNo) : State :=
  s.modPort p fun port =>
    if port.remaining ≤ 1 then port.settle .hunt
    else { port with remaining := port.remaining - 1, byteGapRunning := true }

/-- A character taken in the current receive state (R3 to R13); on a disabled port none arrives. -/
def takeCharacter (s : State) (p : PortNo) (v : Byte) (framing : Bool) : State :=
  match s.ports[p].rx with
  | .off => s
  | .hunt => if framing = false ∧ v = 0xA6#8 then s.modPort p Port.startFrame else s
  | .header => if framing then s.modPort p (Port.failToHunt · .framing) else takeHeader s p v
  | .payload => if framing then s.modPort p (Port.failToHunt · .framing) else takePayload s p v
  | .check => if framing then s.modPort p (Port.failToHunt · .framing) else takeCheck s p v
  | .discard => if framing then s.modPort p (Port.settle · .hunt) else takeDiscard s p

/-- CHARACTER_ARRIVAL (R3). -/
def execCharacterArrival (port : PortNo) (value : Byte) (framing : Bool) (s : State) :
    Host.Outcome State Fault Refusal :=
  live s fun s => takeCharacter s port value framing

/-- Expiry of the byte-gap timer while it runs (R11 (4), (5)). -/
def byteGapExpiry (s : State) (p : PortNo) : State :=
  if !s.ports[p].byteGapRunning then s
  else match s.ports[p].rx with
    | .off => s
    | .hunt => s
    | .header => s.modPort p (Port.failToHunt · .framing)
    | .payload => s.modPort p (Port.failToHunt · .framing)
    | .check => s.modPort p (Port.failToHunt · .framing)
    | .discard => s.modPort p (Port.settle · .hunt)

/-- BYTE_GAP_TIMER_EXPIRY (R11). -/
def execByteGapTimerExpiry (port : PortNo) (s : State) : Host.Outcome State Fault Refusal :=
  live s fun s => byteGapExpiry s port

/-! ### Transmitter -/

/-- The field frame of a record: header byte 1 carries channel, END and URGENT with the spare bits clear; CONFIRM is not carried (R128 (2), R175). -/
def PortTxRecord.frame (r : PortTxRecord) : List Byte :=
  fieldFrame r.node (r.channel ++ 0#2 ++ BitVec.ofBool r.endFlag ++ BitVec.ofBool r.urgent) r.payload

/-- A start when the transmitter is IDLE, the port enabled and its queue not empty (R128). -/
def Port.tryStart (port : Port) : Port :=
  match port.sending, port.txQueue with
  | none, r :: rest => if port.enabled then { port with sending := some r, txQueue := rest } else port
  | _, _ => port

/-- UNDELIVERED for a record that carries CONFIRM (R132). -/
def reportUndelivered (s : State) (p : PortNo) (r : PortTxRecord) (reason : UndeliveredReason) : State :=
  if r.confirm then raise s (.undelivered p r.node r.channel r.seq r.index reason) else s

/-- Completion of the frame in SENDING, and the start of the next (R129). -/
def fieldFrameDone (s : State) (p : PortNo) : State :=
  match s.ports[p].sending with
  | none => s
  | some r =>
    let s := s.modPort p fun port =>
      { port with
        sending := none
        counters := { port.counters with transmitted := bump port.counters.transmitted } }
    let s := if r.confirm then raise s (.delivered p r.node r.channel r.seq r.index) else s
    s.modPort p Port.tryStart

/-- FIELD_FRAME_COMPLETE (R129). -/
def execFieldFrameComplete (port : PortNo) (s : State) : Host.Outcome State Fault Refusal :=
  live s fun s => fieldFrameDone s port

/-! ### Enable and disable -/

/-- The receiver's part of a disable (R15). -/
def Port.disableReceiver (port : Port) : Port :=
  match port.rx with
  | .off => port
  | .hunt => port.settle .off
  | .header => (port.countError .aborted).settle .off
  | .payload => (port.countError .aborted).settle .off
  | .check => (port.countError .aborted).settle .off
  | .discard => port.settle .off

/-- The abort of the frame in SENDING (R130). -/
def abortSending (s : State) (p : PortNo) : State :=
  match s.ports[p].sending with
  | none => s
  | some r =>
    let s := s.modPort p fun port =>
      { port with sending := none, counters := { port.counters with txAborts := bump port.counters.txAborts } }
    reportUndelivered s p r .portOff

/-- The discard of queued records, in queue order (R131). -/
def discardQueued (s : State) (p : PortNo) : List PortTxRecord → State
  | [] => s
  | r :: rest =>
    let s := s.modPort p fun port =>
      { port with counters := { port.counters with txDiscards := bump port.counters.txDiscards } }
    discardQueued (reportUndelivered s p r .portOff) p rest

/-- A disable of the port: receiver, frame in SENDING, Port Transmit Queue (R15, R130, R131). -/
def disablePort (s : State) (p : PortNo) : State :=
  let s := s.modPort p fun port => { port.disableReceiver with enabled := false }
  let s := abortSending s p
  let queued := s.ports[p].txQueue
  discardQueued (s.modPort p fun port => { port with txQueue := [] }) p queued

/-- An enable of the port: OFF to HUNT; an enabled port stays as it is (R4, R128). -/
def enablePort (s : State) (p : PortNo) : State :=
  s.modPort p fun port =>
    if port.enabled then port
    else Port.tryStart { port.settle .hunt with enabled := true }

end Sys2Proof.Machine
end

