-- ==== Sys2Proof/Machine/MgmtOps.lean ====
section
/-! DEFINITION. The management protocol's shared operations: taking a request with the Reply Cache (R136 to R142), the end of DRAINING (R142, R148), and a slot becoming IDLE (R59, R61, R63). -/

namespace Sys2Proof.Machine

/-- What carrying a command out gives: the new state; status and result part, or none for the QUIESCE whose reply comes later; whether a pending reset waits for the reply (R136, R156). -/
structure Execution where
  state : State
  reply : Option (Status × List Byte)
  awaited : Bool

/-- A command carried out, with its result part (R138 (4)). -/
def Execution.done (s : State) (result : List Byte) : Execution := ⟨s, some (.ok, result), false⟩

/-- A command that ends with another status: no result part (R137). -/
def Execution.refuse (s : State) (status : Status) : Execution := ⟨s, some (status, []), false⟩

/-- Room for one more cache entry: with 4 held, the oldest DONE entry is removed (R141). -/
def evictOldestDone (cache : List CacheEntry) : List CacheEntry :=
  if cache.length < Config.cachePlaces then cache else cache.eraseP (·.reply.isSome)

/-- A MGMT_REQUEST that reaches the Management Unit (R136, R140, R141). -/
def takeRequest (s : State) (id : Word16) (code : Byte) (run : State → Execution) : State :=
  if !s.controlRoom then { s with mgmt := { s.mgmt with dropped := bump s.mgmt.dropped } }
  else match s.replyCache.find? (fun e => e.id == id) with
    | some e =>
      let s : State := { s with mgmt := { s.mgmt with replays := bump s.mgmt.replays } }
      match e.reply with
      | some r => s.placeControl ⟨.mgmtReply r, false⟩
      | none => s
    | none =>
      let x := run
        { s with
          mgmt := { s.mgmt with executed := bump s.mgmt.executed }
          replyCache := evictOldestDone s.replyCache }
      let reply : Option MgmtReply := x.reply.map fun r => ⟨id, code, r.1, r.2⟩
      let s : State := { x.state with replyCache := x.state.replyCache ++ [⟨id, code, reply⟩] }
      match reply with
      | some r => s.placeControl ⟨.mgmtReply r, x.awaited⟩
      | none => s

/-- A management command: reception, then the Management Unit (R101, R136; log 6). -/
def command (s : State) (id : Word16) (code : Byte) (run : State → Execution) : Host.Outcome State Fault Refusal :=
  live s fun s => received s fun s => takeRequest s id code run

/-- The end of DRAINING: timer stopped, QUIESCED, the IN_PROGRESS entry DONE and its reply placed where R142 allows (R142, R148, R149). -/
def endDrain (s : State) (status : Status) (result : List Byte) : State :=
  let s : State := { s with drainTimer := none, opState := .quiesced }
  match s.replyCache.find? (fun e => e.reply.isNone) with
  | none => s
  | some e =>
    let r : MgmtReply := ⟨e.id, e.code, status, result⟩
    let s : State :=
      { s with replyCache := s.replyCache.map fun c => if c.reply.isNone then { c with reply := some r } else c }
    if s.controlRoom && s.link != .offline then s.placeControl ⟨.mgmtReply r, false⟩ else s

/-- Every slot is IDLE (R61). -/
def State.allIdle (s : State) : Bool := slotNos.all fun n => s.slots[n] = .idle

/-- A slot has become IDLE by a move: a trigger in RUN (R59), the report that may end DRAINING (R61, R148). -/
def slotBecameIdle (s : State) : State :=
  match s.opState with
  | .run => tryHeld s
  | .draining => if s.allIdle then endDrain s .ok [] else s
  | .quiesced => s

/-- The descriptor a queue keeps of a CLOSED slot's bundle (R63, R79). -/
def descriptorOf (b : Bundle) (cause : CloseCause) (cls : BundleClass) : Descriptor where
  profile := b.snapshot.profile
  destination := b.snapshot.destination
  stamp := b.snapshot.stamp
  templateLength := b.snapshot.templateLength
  recordCount := b.recordCount
  bodyBytes := b.bodyBytes
  openTime := b.openTime
  cause := cause
  queueClass := cls
  chain := b.chain
  lastBytes := b.lastBytes

/-- The move of R63, when the head of the class's Close Order List is CLOSED and the queue has a free place. -/
def moveHead (s : State) (cls : BundleClass) : State :=
  match s.closeOrder cls with
  | [] => s
  | n :: rest =>
    if Config.emissionPlaces ≤ (s.queue cls).length then s
    else match s.slots[n] with
      | .closed b cause qc =>
        let s := s.setCloseOrder cls rest
        let s := s.setQueue cls (s.queue cls ++ [descriptorOf b cause qc])
        let s := s.setSlot n .idle
        slotBecameIdle { s with evictionMark := if s.evictionMark = some n then none else s.evictionMark }
      | _ => s

end Sys2Proof.Machine
end

