-- ==== Sys2Proof/Machine/Operands.lean ====
section
/-! DEFINITION. The operands of the management commands: the range checks that end in BAD_PARAM, and the coding of tables, configuration and states (R30, R33, R152, R179, R180). -/

namespace Sys2Proof.Machine

/-- A byte coded 0 no, 1 yes. -/
def byteFlag (b : Byte) : Bool := b == 1

/-! ### Match records (R25, R30, R180) -/

/-- Every field of a match record is in range (R30 (1)). -/
def matchInRange (r : MatchRecord) : Bool :=
  decide (r.valid.toNat ≤ 1) && (decide (r.port.toNat ≤ 3) || r.port == 0xFF#8)
    && decide (1 ≤ r.nodeLow.toNat) && decide (r.nodeLow.toNat ≤ 254)
    && decide (1 ≤ r.nodeHigh.toNat) && decide (r.nodeHigh.toNat ≤ 254)
    && decide (r.nodeLow.toNat ≤ r.nodeHigh.toNat)
    && (decide (r.channel.toNat ≤ 15) || r.channel == 0xFF#8)
    && decide (r.action.toNat ≤ 1) && (r.action == 1 || decide (r.profile.toNat ≤ 31))

/-- The match entry a record in range stands for; for DROP the profile id is not examined (R30 (2)). -/
def matchEntryOf (r : MatchRecord) : MatchEntry where
  valid := byteFlag r.valid
  port := if r.port = 0xFF#8 then none else some (Fin.ofNat 4 r.port.toNat)
  nodeLow := r.nodeLow
  nodeHigh := r.nodeHigh
  channel := if r.channel = 0xFF#8 then none else some (r.channel.setWidth 4)
  action := if r.action = 1 then .drop else .route (Fin.ofNat 32 r.profile.toNat)

/-- A match entry as its 7-byte record (R180); the profile id of a DROP entry reads back as 0 (R25). -/
def MatchEntry.bytes (e : MatchEntry) : List Byte :=
  [flagByte e.valid, (match e.port with | none => 0xFF | some p => byteOf p.val), e.nodeLow, e.nodeHigh,
    (match e.channel with | none => 0xFF | some c => c.setWidth 8),
    (match e.action with | .route _ => 0 | .drop => 1),
    (match e.action with | .route p => byteOf p.val | .drop => 0)]

/-! ### Profile records (R32, R33, R180) -/

/-- Every field of a profile record is in range (R33 (1)). -/
def profileInRange (r : ProfileRecord) : Bool :=
  decide (r.valid.toNat ≤ 1) && decide (r.cls.toNat ≤ 1)
    && decide (1 ≤ r.recordLimit.toNat) && decide (r.recordLimit.toNat ≤ 64)
    && decide (128 ≤ r.byteLimit.toNat) && decide (r.byteLimit.toNat ≤ 2048)
    && (decide (r.template.toNat ≤ 7) || r.template == 0xFF#8) && decide (r.stamp.toNat ≤ 1)

/-- The route profile a record in range stands for. -/
def profileOf (r : ProfileRecord) : Profile where
  valid := byteFlag r.valid
  destination := r.destination
  cls := if r.cls = 1 then .express else .bulk
  recordLimit := r.recordLimit
  byteLimit := r.byteLimit
  idleTime := r.idleTime
  ageLimit := r.ageLimit
  template := if r.template = 0xFF#8 then none else some (Fin.ofNat 8 r.template.toNat)
  stamp := byteFlag r.stamp

/-- Class as the profile record codes it (R180). -/
def classByte : BundleClass → Byte
  | .bulk => 0
  | .express => 1

/-- A route profile as its 13-byte record (R180). -/
def Profile.bytes (p : Profile) : List Byte :=
  [flagByte p.valid] ++ be16 p.destination ++ [classByte p.cls, p.recordLimit] ++ be16 p.byteLimit ++ be16 p.idleTime
    ++ be16 p.ageLimit ++ [(match p.template with | none => 0xFF | some t => byteOf t.val), flagByte p.stamp]

/-! ### Configuration records (R151, R152, R180) -/

/-- Every item of a configuration record is in range (R152 (1)). -/
def configInRange (r : ConfigRecord) : Bool :=
  decide (r.paceCount.toNat ≤ 15) && decide (1 ≤ r.paceWindow.toNat) && decide (r.paceWindow.toNat ≤ 1000)
    && decide (5 ≤ r.ackTimeout.toNat) && decide (r.ackTimeout.toNat ≤ 2000)
    && decide (1 ≤ r.retryLimit.toNat) && decide (r.retryLimit.toNat ≤ 7)
    && decide (r.missAction.toNat ≤ 1) && decide (r.defaultProfile.toNat ≤ 31)
    && decide (r.poolLowMark.toNat ≤ 511)
    && decide (1 ≤ r.expressRun.toNat) && decide (r.expressRun.toNat ≤ 15)
    && decide (r.eventMask.toNat < 512)

/-- The configuration a record in range stands for. -/
def configOf (r : ConfigRecord) : GlobalConfig where
  paceCount := r.paceCount
  paceWindow := r.paceWindow
  ackTimeout := r.ackTimeout
  retryLimit := r.retryLimit
  missAction := if r.missAction = 1 then .toDefault else .drop
  defaultProfile := Fin.ofNat 32 r.defaultProfile.toNat
  poolLowMark := r.poolLowMark
  expressRun := r.expressRun
  eventMask := r.eventMask.setWidth 9

/-- The configuration as its 13-byte record (R180). -/
def GlobalConfig.bytes (c : GlobalConfig) : List Byte :=
  [c.paceCount] ++ be16 c.paceWindow ++ be16 c.ackTimeout
    ++ [c.retryLimit, (match c.missAction with | .drop => 0 | .toDefault => 1), byteOf c.defaultProfile.val]
    ++ be16 c.poolLowMark ++ [c.expressRun] ++ be16 (c.eventMask.setWidth 16)

/-! ### Codes of states in results (R178, R179) -/

/-- Bit rate of a code 0 to 6; none for a code that stands for no rate. -/
def BitRate.ofByte (b : Byte) : Option BitRate :=
  if b = 0 then some .r9600 else if b = 1 then some .r19200 else if b = 2 then some .r57600
  else if b = 3 then some .r115200 else if b = 4 then some .r250000 else if b = 5 then some .r500000
  else if b = 6 then some .r1000000 else none

/-- Code of a bit rate. -/
def BitRate.byte : BitRate → Byte
  | .r9600 => 0
  | .r19200 => 1
  | .r57600 => 2
  | .r115200 => 3
  | .r250000 => 4
  | .r500000 => 5
  | .r1000000 => 6

/-- Code of a receive state. -/
def RxState.byte : RxState → Byte
  | .off => 0
  | .hunt => 1
  | .header => 2
  | .payload => 3
  | .check => 4
  | .discard => 5

/-- Code of an operating state. -/
def OpState.byte : OpState → Byte
  | .quiesced => 0
  | .run => 1
  | .draining => 2

/-- Code of a link state. -/
def LinkState.byte : LinkState → Byte
  | .offline => 0
  | .up => 1
  | .stalled => 2

/-- Code of a reset cause. -/
def ResetCause.byte : ResetCause → Byte
  | .power => 1
  | .pin => 2
  | .commandFull => 3
  | .commandTraffic => 4

/-- Code of a status. -/
def Status.byte : Status → Byte
  | .ok => 0
  | .busy => 1
  | .badState => 2
  | .badParam => 3
  | .unknownCommand => 4
  | .partialEnd => 5

/-- Code of a close cause (R49). -/
def CloseCause.code : CloseCause → Nat
  | .recordLimit => 1
  | .byteLimit => 2
  | .endFlag => 3
  | .urgent => 4
  | .idleTimeout => 5
  | .ageTimeout => 6
  | .flush => 7
  | .evicted => 8
  | .quiesce => 9
  | .poolEmpty => 10
  | .profileChanged => 11

/-- READ_STATUS's reset pending byte: 0 none, 1 TRAFFIC, 2 FULL. -/
def pendingByte : Option PendingReset → Byte
  | none => 0
  | some ⟨.traffic, _⟩ => 1
  | some ⟨.full, _⟩ => 2

end Sys2Proof.Machine
end

