-- ==== Sys2Proof/WellFormed.lean ====
section
/-! DEFINITION. Which terms of `Instr` stand for a command the outside can send: the length rules of chapter 10 that the types do not say. -/

namespace Sys2Proof

/-- A DISPATCH entry within the length rule: payload length 120 or less (R181). -/
def DispatchEntry.wellFormed (e : DispatchEntry) : Bool := decide (e.payload.length ≤ 120)

/-- The length rule of DISPATCH on parsed entries: 1 to 8 of them, each well formed (R181). -/
def dispatchLengthRule (es : List DispatchEntry) : Bool :=
  decide (1 ≤ es.length) && decide (es.length ≤ 8) && es.all DispatchEntry.wellFormed

/-- The length rule of WRITE_TEMPLATE: as many bytes as the length byte declares (R35 (2), R179). -/
def templateLengthRule (length : Byte) (bytes : List Byte) : Bool := decide (bytes.length = length.toNat)

/-- A parameter part that a frame of at most 2104 bytes can carry: 11 bytes go to header, id, code and check (R176, R179). -/
def paramsFit (params : List Byte) : Bool := decide (params.length ≤ 2093)

/-- An UNKNOWN_COMMAND's code is none of the part's command codes (R138). -/
def unknownCode (code : Byte) : Bool := !(Machine.commandCodes.contains code)

/-- The check of a command term. -/
def Instr.wellFormed : Instr → Bool
  | .characterArrival _ _ _ => true
  | .byteGapTimerExpiry _ => true
  | .classifierTake => true
  | .idleTimeout _ => true
  | .ageTimeout _ => true
  | .slotMove _ => true
  | .startHistoryAgeing => true
  | .helloStart => true
  | .helloComplete => true
  | .controlFrameStart => true
  | .controlFrameComplete => true
  | .eventFrameStart => true
  | .eventFrameComplete => true
  | .firstTransmissionStart => true
  | .retransmissionStart => true
  | .retryCheckAtLimit => true
  | .bundleTransmissionComplete => true
  | .ackTimerExpiry => true
  | .helloTimerExpiry => true
  | .carrierLoss => true
  | .carrierGain => true
  | .trunkFrameDiscard _ => true
  | .sync => true
  | .bundleAck _ => true
  | .bundleNak _ => true
  | .dispatch _ es => dispatchLengthRule es
  | .fieldFrameComplete _ => true
  | .identify _ => true
  | .readStatus _ => true
  | .readSlots _ => true
  | .getConfig _ => true
  | .setConfig _ _ => true
  | .writeMatch _ _ _ => true
  | .readMatch _ _ _ => true
  | .commitMatch _ => true
  | .writeProfile _ _ _ => true
  | .readProfile _ _ => true
  | .writeTemplate _ _ length bytes => templateLengthRule length bytes
  | .readTemplate _ _ => true
  | .flush _ _ => true
  | .quiesce _ _ => true
  | .resume _ => true
  | .portControl _ _ _ _ _ => true
  | .readPort _ _ => true
  | .readCounters _ _ _ _ _ _ => true
  | .resetPart _ _ => true
  | .unknownCommand _ code params => unknownCode code && paramsFit params
  | .drainTimerExpiry => true
  | .resetDeadline => true
  | .powerOn => true
  | .resetNAsserted => true
  | .pinResetComplete _ => true

end Sys2Proof
end

