-- ==== Sys2Proof/Machine/Commands.lean ====
section
/-! DEFINITION. The management commands (chapter 8): what carrying each one out does and answers (R30 to R35, R60 to R62, R65, R145, R146, R151 to R156, R172, R179), and the drain timer's expiry (R149). -/

namespace Sys2Proof.Machine

/-! ### Reading the part -/

/-- The result part of IDENTIFY: family, part number, revision, unit number, reset cause, fourteen capacities (R153, R179). -/
def identifyResult (s : State) : List Byte :=
  [1] ++ be16 416 ++ [Config.revision, s.unitNumber.setWidth 8, s.resetCause.byte]
    ++ [4, 16, 512, 128, 128, 32, 8, 32, 16, 8, 8, 4, 16, 8].flatMap (fun n => be16 (wordOf n))

/-- IDENTIFY (R153). -/
def execIdentify (id : Word16) (s : State) : Host.Outcome State Fault Refusal :=
  command s id codeIdentify fun s => .done s (identifyResult s)

/-- Slots in each state: IDLE, OPEN, CLOSED (R65). -/
def State.slotCounts (s : State) : Nat × Nat × Nat :=
  (slotNos.countP (fun n => match s.slots[n] with | .idle => true | _ => false),
    slotNos.countP (fun n => match s.slots[n] with | .opened _ _ _ => true | _ => false),
    slotNos.countP (fun n => match s.slots[n] with | .closed _ _ _ => true | _ => false))

/-- The result part of READ_STATUS (R154, R179). -/
def statusResult (s : State) : List Byte :=
  [s.opState.byte, pendingByte s.pendingReset] ++ be32 s.partTime ++ [s.link.byte]
    ++ be16 (wordOf s.freeList.length)
    ++ [byteOf s.slotCounts.1, byteOf s.slotCounts.2.1, byteOf s.slotCounts.2.2, flagByte s.hold.isSome,
      byteOf s.expressQueue.length, byteOf s.bulkQueue.length, byteOf s.retention.length,
      byteOf s.controlQueue.length, byteOf s.eventQueue.length]
    ++ portNos.map fun p => byteOf s.ports[p].txQueue.length

/-- READ_STATUS (R154). -/
def execReadStatus (id : Word16) (s : State) : Host.Outcome State Fault Refusal :=
  command s id codeReadStatus fun s => .done s (statusResult s)

/-- What READ_SLOTS gives for one slot (R65, R179). -/
def slotReport (now : PartTime) : Slot → List Byte
  | .idle => [0, 0, 0, 0, 0, 0, 0, 0, 0, 0]
  | .opened b _ _ =>
    [1, byteOf b.snapshot.profile.val, byteOf b.recordCount] ++ be16 (wordOf b.bodyBytes)
      ++ be32 (now - b.openTime) ++ [0]
  | .closed b cause _ =>
    [2, byteOf b.snapshot.profile.val, byteOf b.recordCount] ++ be16 (wordOf b.bodyBytes)
      ++ be32 (now - b.openTime) ++ [byteOf cause.code]

/-- READ_SLOTS (R65). -/
def execReadSlots (id : Word16) (s : State) : Host.Outcome State Fault Refusal :=
  command s id codeReadSlots fun s => .done s (slotNos.flatMap fun n => slotReport s.partTime s.slots[n])

/-- The result part of READ_PORT (R20, R127, R179). -/
def portReport (port : Port) : List Byte :=
  [flagByte port.enabled, port.bitRate.byte, port.maxLen, port.rx.byte] ++ be16 (wordOf port.usedBytes)
    ++ [byteOf port.fifo.length, flagByte port.sending.isSome, byteOf port.txQueue.length, 0]

/-- READ_PORT (R20, R127). -/
def execReadPort (id : Word16) (port : Byte) (s : State) : Host.Outcome State Fault Refusal :=
  command s id codeReadPort fun s =>
    if port.toNat ≤ 3 then .done s (portReport s.ports[(Fin.ofNat 4 port.toNat : PortNo)])
    else .refuse s .badParam

/-! ### Global configuration -/

/-- GET_CONFIG (R151). -/
def execGetConfig (id : Word16) (s : State) : Host.Outcome State Fault Refusal :=
  command s id codeGetConfig fun s => .done s s.config.bytes

/-- The write of SET_CONFIG; a change of PACE_COUNT or PACE_WINDOW empties the Start History (R90, R152). -/
def writeConfig (s : State) (c : GlobalConfig) : State :=
  { s with
    config := c
    startHistory :=
      if c.paceCount = s.config.paceCount ∧ c.paceWindow = s.config.paceWindow then s.startHistory else [] }

/-- SET_CONFIG (R152). -/
def execSetConfig (id : Word16) (record : ConfigRecord) (s : State) : Host.Outcome State Fault Refusal :=
  command s id codeSetConfig fun s =>
    if !configInRange record then .refuse s .badParam
    else if s.opState ≠ .quiesced then .refuse s .badState
    else .done (writeConfig s (configOf record)) []

/-! ### Tables -/

/-- WRITE_MATCH: the SHADOW entry is replaced whole (R30). -/
def execWriteMatch (id : Word16) (index : Byte) (record : MatchRecord) (s : State) :
    Host.Outcome State Fault Refusal :=
  command s id codeWriteMatch fun s =>
    if index.toNat ≤ 127 ∧ matchInRange record = true then
      let i : Fin 128 := Fin.ofNat 128 index.toNat
      .done { s with shadow := s.shadow.set i.val (matchEntryOf record) i.isLt } []
    else .refuse s .badParam

/-- READ_MATCH: an entry of ACTIVE (bank 0) or SHADOW (bank 1) (R30). -/
def execReadMatch (id : Word16) (index bank : Byte) (s : State) : Host.Outcome State Fault Refusal :=
  command s id codeReadMatch fun s =>
    if index.toNat ≤ 127 ∧ bank.toNat ≤ 1 then
      let i : Fin 128 := Fin.ofNat 128 index.toNat
      .done s (if bank = 0 then s.active[i] else s.shadow[i]).bytes
    else .refuse s .badParam

/-- COMMIT_MATCH: SHADOW into ACTIVE, ROUTE_MISS armed (R29, R31). -/
def execCommitMatch (id : Word16) (s : State) : Host.Outcome State Fault Refusal :=
  command s id codeCommitMatch fun s => .done { s with active := s.shadow, routeMissArmed := true } []

/-- A taken WRITE_PROFILE passed to the Slot Table: the OPEN slot of the profile id closes (R33 (3), R62). -/
def closeProfile (s : State) (p : Fin 32) (cause : CloseCause) : State :=
  match s.openSlotOf p with
  | some (n, _, _) => closeSlot s n cause
  | none => s

/-- The trigger of a taken WRITE_PROFILE: a held record of that profile id is tried (R59 (3)). -/
def tryHeldFor (s : State) (p : Fin 32) : State :=
  match s.hold with
  | some h => if h.profile = p then tryHeld s else s
  | none => s

/-- WRITE_PROFILE (R33, R62). -/
def execWriteProfile (id : Word16) (profile : Byte) (record : ProfileRecord) (s : State) :
    Host.Outcome State Fault Refusal :=
  command s id codeWriteProfile fun s =>
    if profile.toNat ≤ 31 ∧ profileInRange record = true then
      let p : Fin 32 := Fin.ofNat 32 profile.toNat
      let s : State := { s with profiles := s.profiles.set p.val (profileOf record) p.isLt }
      .done (tryHeldFor (closeProfile s p .profileChanged) p) []
    else .refuse s .badParam

/-- READ_PROFILE (R32). -/
def execReadProfile (id : Word16) (profile : Byte) (s : State) : Host.Outcome State Fault Refusal :=
  command s id codeReadProfile fun s =>
    if profile.toNat ≤ 31 then .done s s.profiles[(Fin.ofNat 32 profile.toNat : Fin 32)].bytes
    else .refuse s .badParam

/-- WRITE_TEMPLATE; a byte count other than the declared length never reaches the Management Unit (R35, R179). -/
def execWriteTemplate (id : Word16) (template length : Byte) (bytes : List Byte) (s : State) :
    Host.Outcome State Fault Refusal :=
  if templateLengthRule length bytes then
    command s id codeWriteTemplate fun s =>
      if template.toNat ≤ 7 ∧ length.toNat ≤ 32 then
        let i : Fin 8 := Fin.ofNat 8 template.toNat
        .done { s with templates := s.templates.set i.val bytes i.isLt } []
      else .refuse s .badParam
  else live s countBadLength

/-- READ_TEMPLATE: length, then the bytes (R35). -/
def execReadTemplate (id : Word16) (template : Byte) (s : State) : Host.Outcome State Fault Refusal :=
  command s id codeReadTemplate fun s =>
    if template.toNat ≤ 7 then
      let bytes := s.templates[(Fin.ofNat 8 template.toNat : Fin 8)]
      .done s (byteOf bytes.length :: bytes)
    else .refuse s .badParam

/-! ### Closing, quiescing, resuming -/

/-- FLUSH: one profile's OPEN slot, or every OPEN slot for 0xFF (R60). -/
def execFlush (id : Word16) (profile : Byte) (s : State) : Host.Outcome State Fault Refusal :=
  command s id codeFlush fun s =>
    if profile = 0xFF#8 then .done (closeAll s .flush) []
    else if profile.toNat ≤ 31 then .done (closeProfile s (Fin.ofNat 32 profile.toNat) .flush) []
    else .refuse s .badParam

/-- QUIESCE taken in RUN: DRAINING with the reply to come, or QUIESCED at once when every slot is IDLE (R61, R146). -/
def quiesceRun (s : State) (timeout : Word16) : Execution :=
  if s.allIdle then .done { s with opState := .quiesced } []
  else
    ⟨{ closeAll { s with opState := .draining } .quiesce with
        drainTimer := some (s.partTime + timeout.setWidth 32) }, none, false⟩

/-- QUIESCE (R146). -/
def execQuiesce (id : Word16) (timeout : Word16) (s : State) : Host.Outcome State Fault Refusal :=
  command s id codeQuiesce fun s =>
    if timeout.toNat = 0 ∨ 60000 < timeout.toNat then .refuse s .badParam
    else match s.opState with
      | .run => quiesceRun s timeout
      | .quiesced => .done s []
      | .draining => .refuse s .busy

/-- RESUME (R145): on the move to RUN a held record is offered for placement (R36, R59 (4)). -/
def execResume (id : Word16) (s : State) : Host.Outcome State Fault Refusal :=
  command s id codeResume fun s =>
    match s.opState with
    | .quiesced => .done (tryHeld { s with opState := .run }) []
    | .run => .done s []
    | .draining => .refuse s .badState

/-! ### Ports -/

/-- Bit rate and max payload length taken by a port that is disabled at this point (R2 (2)). -/
def writeSettings (s : State) (p : PortNo) (rate : BitRate) (maxLen : Byte) : State :=
  s.modPort p fun port => { port with bitRate := rate, maxLen := maxLen }

/-- PORT_CONTROL with values in range, in the order of R2: disable, settings, enable. -/
def controlPort (s : State) (p : PortNo) (enable : Bool) (rate : BitRate) (maxLen : Byte) : Execution :=
  if enable = false then .done (writeSettings (disablePort s p) p rate maxLen) []
  else if s.ports[p].enabled = false then .done (enablePort (writeSettings s p rate maxLen) p) []
  else if s.ports[p].bitRate = rate ∧ s.ports[p].maxLen = maxLen then .done (enablePort s p) []
  else .refuse s .badState

/-- PORT_CONTROL (R2). -/
def execPortControl (id : Word16) (port enable bitRate maxLen : Byte) (s : State) :
    Host.Outcome State Fault Refusal :=
  command s id codePortControl fun s =>
    match BitRate.ofByte bitRate with
    | none => .refuse s .badParam
    | some rate =>
      if port.toNat ≤ 3 ∧ enable.toNat ≤ 1 ∧ maxLen.toNat ≤ 120 then
        controlPort s (Fin.ofNat 4 port.toNat) (byteFlag enable) rate maxLen
      else .refuse s .badParam

/-! ### Counters (R155, R171, R172) -/

/-- The items of a PORT group in index order (R171). -/
def PortCounters.items (c : PortCounters) : List Counter :=
  [c.good, c.framing, c.crc, c.length, c.badSource, c.overflow, c.aborted, c.transmitted, c.txAborts, c.txDiscards]

/-- The items of the CLASSIFY group. -/
def ClassifyCounters.items (c : ClassifyCounters) : List Counter :=
  [c.taken, c.appended, c.missDrops, c.ruleDrops, c.routeInvalid, c.evictions, c.holdEntries]

/-- The items of the CAUSE group. -/
def CauseCounters.items (c : CauseCounters) : List Counter :=
  [c.recordLimit, c.byteLimit, c.endFlag, c.urgent, c.idleTimeout, c.ageTimeout, c.flush, c.evicted, c.quiesce,
    c.poolEmpty, c.profileChanged, c.bundlesDiscarded, c.recordsDiscarded]

/-- The items of the TRUNK group. -/
def TrunkCounters.items (c : TrunkCounters) : List Counter :=
  [c.badCheck, c.badLength, c.unknownKind, c.wrongUnit, c.inOffline, c.firstSent, c.retransmissions, c.acks, c.naks,
    c.strayAck, c.strayNak, c.stalls, c.carrierLosses, c.syncsTaken, c.syncsDropped]

/-- The items of the DISPATCH group. -/
def DispatchCounters.items (c : DispatchCounters) : List Counter :=
  [c.admitted, c.duplicates, c.gapRefusals, c.roomRefusals, c.entryRefusals, c.droppedQueueFull, c.portOffDiscards,
    c.lengthDiscards]

/-- The items of the MGMT group. -/
def MgmtCounters.items (c : MgmtCounters) : List Counter := [c.executed, c.replays, c.dropped, c.eventsLost]

/-- A counter group named by group and port byte (R155); the port byte is ignored but for PORT (R179). -/
inductive CounterGroup where
  | port (p : PortNo)
  | matches
  | classify
  | cause
  | pool
  | trunk
  | dispatch
  | mgmt
  deriving DecidableEq, Repr

/-- The group of a group byte and a port byte; none when they name none (R155, R179). -/
def groupOf (group port : Byte) : Option CounterGroup :=
  if group = 0 then (if port.toNat ≤ 3 then some (.port (Fin.ofNat 4 port.toNat)) else none)
  else if group = 1 then some .matches
  else if group = 2 then some .classify
  else if group = 3 then some .cause
  else if group = 4 then some .pool
  else if group = 5 then some .trunk
  else if group = 6 then some .dispatch
  else if group = 7 then some .mgmt
  else none

/-- The items of a group in index order (R171, R76). -/
def groupItems (s : State) : CounterGroup → List Counter
  | .port p => s.ports[p].counters.items
  | .matches => s.matchHits.toList
  | .classify => s.classify.items
  | .cause => s.causes.items
  | .pool => [BitVec.ofNat 32 s.freeList.length, BitVec.ofNat 32 s.minFree, s.allocFailures]
  | .trunk => s.trunk.items
  | .dispatch => s.dispatchCounters.items
  | .mgmt => s.mgmt.items

/-- The clear of a whole group, and the arming of the flag tied to it (R172 (2), (3), R76). -/
def clearGroup (s : State) : CounterGroup → State
  | .port p =>
    { s.modPort p (fun port => { port with counters := .zero }) with
      intakeArmed := s.intakeArmed.set p.val true p.isLt }
  | .matches => { s with matchHits := Vector.replicate 128 0 }
  | .classify => { s with classify := ⟨0, 0, 0, 0, 0, 0, 0⟩, routeMissArmed := true }
  | .cause => { s with causes := ⟨0, 0, 0, 0, 0, 0, 0, 0, 0, 0, 0, 0, 0⟩ }
  | .pool => { s with minFree := s.freeList.length, allocFailures := 0 }
  | .trunk => { s with trunk := ⟨0, 0, 0, 0, 0, 0, 0, 0, 0, 0, 0, 0, 0, 0, 0⟩ }
  | .dispatch => { s with dispatchCounters := ⟨0, 0, 0, 0, 0, 0, 0, 0⟩ }
  | .mgmt => { s with mgmt := ⟨0, 0, 0, 0⟩ }

/-- READ_COUNTERS: the run of items as they stand, then the clear (R155, R172). -/
def execReadCounters (id : Word16) (group port first count clear : Byte) (s : State) :
    Host.Outcome State Fault Refusal :=
  command s id codeReadCounters fun s =>
    match groupOf group port with
    | none => .refuse s .badParam
    | some g =>
      let items := groupItems s g
      if 1 ≤ count.toNat ∧ first.toNat + count.toNat ≤ items.length ∧ clear.toNat ≤ 1 then
        .done (if clear = 1 then clearGroup s g else s)
          (((items.drop first.toNat).take count.toNat).flatMap be32)
      else .refuse s .badParam

/-! ### Reset and unknown commands -/

/-- The level a byte codes (R179). -/
def levelOf (level : Byte) : Option ResetLevel :=
  if level = 1 then some .traffic else if level = 2 then some .full else none

/-- RESET_PART: the reply is placed and the flag set, with the frame it waits for (R156). -/
def execResetPart (id : Word16) (level : Byte) (s : State) : Host.Outcome State Fault Refusal :=
  command s id codeResetPart fun s =>
    match levelOf level with
    | none => .refuse s .badParam
    | some l =>
      match s.pendingReset with
      | some _ => .refuse s .busy
      | none => ⟨{ s with pendingReset := some ⟨l, s.partTime + Config.resetWait⟩ }, some (.ok, []), true⟩

/-- UNKNOWN_COMMAND: a code that is none of the part's (R138). A term whose code is one of the part's stands for no such frame, and one whose frame would be longer than 2104 bytes is a bad length (log 6). -/
def execUnknownCommand (id : Word16) (code : Byte) (params : List Byte) (s : State) :
    Host.Outcome State Fault Refusal :=
  if !paramsFit params then live s countBadLength
  else if unknownCode code then command s id code fun s => .refuse s .unknownCommand
  else .next s

/-! ### The drain timer -/

/-- The drain timer's expiry in DRAINING: discard, DRAIN_DISCARD, QUIESCED, PARTIAL reply (R64, R149). -/
def expireDrain (s : State) : State :=
  match s.opState, s.drainTimer with
  | .draining, some d =>
    if reached s.partTime d then
      let totals := discardTotals s
      let s := raise (discardClosed s) (.drainDiscard totals.1 totals.2)
      endDrain s .partialEnd (byteOf totals.1 :: be16 (wordOf totals.2))
    else s
  | _, _ => s

/-- DRAIN_TIMER_EXPIRY (R149). -/
def execDrainTimerExpiry (s : State) : Host.Outcome State Fault Refusal := live s expireDrain

end Sys2Proof.Machine
end

