-- ==== Sys2Proof/Machine/DispatchPath.lean ====
section
/-! DEFINITION. DISPATCH: the sequence comparison, the entry check, the room check and the admission (R119 to R125). -/

namespace Sys2Proof.Machine

/-- An entry fails the entry check: port above 3, node 0 or 255, or the spare flag bit set (R122, R181). -/
def entryFails (e : DispatchEntry) : Bool :=
  decide (3 < e.port.toNat) || e.node == 0 || e.node == 255#8 || e.chanFlags.getLsbD 3

/-- The port an entry names, once it has passed the entry check. -/
def entryPort (e : DispatchEntry) : PortNo := Fin.ofNat 4 e.port.toNat

/-- Index of the first failing entry (R122). -/
def firstFailing (es : List DispatchEntry) : Option Nat := es.findIdx? entryFails

/-- What becomes of an entry of an admitted frame (R123). -/
inductive Disposition where
  | queue
  | portOff
  | length
  deriving DecidableEq, Repr

/-- The disposition of an entry, by its port's settings as they stand (R123). -/
def disposition (s : State) (e : DispatchEntry) : Disposition :=
  let port := s.ports[entryPort e]
  if !port.enabled then .portOff
  else if port.maxLen.toNat < e.payload.length then .length
  else .queue

/-- Entries to be queued to a port (R123). -/
def queuedFor (s : State) (es : List DispatchEntry) (p : PortNo) : Nat :=
  es.countP fun e => disposition s e == .queue && entryPort e == p

/-- The room check (R123). -/
def roomFor (s : State) (es : List DispatchEntry) : Bool :=
  portNos.all fun p => decide (queuedFor s es p ≤ s.ports[p].freePlaces)

/-- The record an entry becomes (R124 (1), R181). -/
def txRecordOf (seq : Word16) (index : Nat) (e : DispatchEntry) : PortTxRecord where
  node := e.node
  channel := e.chanFlags.extractLsb' 4 4
  urgent := e.chanFlags.getLsbD 0
  endFlag := e.chanFlags.getLsbD 1
  confirm := e.chanFlags.getLsbD 2
  payload := e.payload
  seq := seq
  index := index

/-- One entry of an admitted frame: it joins its port's queue, with the start that may make possible (R125), or is discarded (R124 (1) to (3)). -/
def admitEntry (s : State) (seq : Word16) (index : Nat) (e : DispatchEntry) : State :=
  let p := entryPort e
  let r := txRecordOf seq index e
  match disposition s e with
  | .queue => s.modPort p fun port => Port.tryStart { port with txQueue := port.txQueue ++ [r] }
  | .portOff =>
    reportUndelivered
      { s with
        dispatchCounters :=
          { s.dispatchCounters with portOffDiscards := bump s.dispatchCounters.portOffDiscards } } p r .portOff
  | .length =>
    reportUndelivered
      { s with
        dispatchCounters :=
          { s.dispatchCounters with lengthDiscards := bump s.dispatchCounters.lengthDiscards } } p r .length

/-- The entries of an admitted frame, in frame order from an index on. -/
def admitEntries (s : State) (seq : Word16) (index : Nat) : List DispatchEntry → State
  | [] => s
  | e :: rest => admitEntries (admitEntry s seq index e) seq (index + 1) rest

/-- A DISPATCH_ACK with the room report as it stands (R125). -/
def answerAck (s : State) (seq : Word16) : State := s.placeControl ⟨.dispatchAck seq s.roomReport, false⟩

/-- A DISPATCH_NAK carrying the next expected dispatch sequence and the room report (R125). -/
def answerNak (s : State) (reason : NakReason) (index : Nat) : State :=
  s.placeControl ⟨.dispatchNak s.expectedDispatch reason index s.roomReport, false⟩

/-- Admission (R124). -/
def admitFrame (s : State) (seq : Word16) (es : List DispatchEntry) : State :=
  let s := admitEntries s seq 0 es
  answerAck
    { s with
      expectedDispatch := s.expectedDispatch + 1
      dispatchCounters := { s.dispatchCounters with admitted := bump s.dispatchCounters.admitted } } seq

/-- A frame whose sequence is the one expected: entry check, room check, admission (R122, R123). -/
def takeExpected (s : State) (seq : Word16) (es : List DispatchEntry) : State :=
  match firstFailing es with
  | some i =>
    answerNak
      { s with
        dispatchCounters := { s.dispatchCounters with entryRefusals := bump s.dispatchCounters.entryRefusals } }
      .entry i
  | none =>
    if roomFor s es then admitFrame s seq es
    else
      answerNak
        { s with
          dispatchCounters := { s.dispatchCounters with roomRefusals := bump s.dispatchCounters.roomRefusals } }
        .room 0

/-- A DISPATCH handed to the Dispatch Unit (R120, R121). -/
def takeDispatch (s : State) (seq : Word16) (es : List DispatchEntry) : State :=
  if !s.controlRoom then
    { s with
      dispatchCounters := { s.dispatchCounters with droppedQueueFull := bump s.dispatchCounters.droppedQueueFull } }
  else match seqCase s.expectedDispatch seq with
    | .behind =>
      answerAck
        { s with
          dispatchCounters := { s.dispatchCounters with duplicates := bump s.dispatchCounters.duplicates } } seq
    | .ahead =>
      answerNak
        { s with
          dispatchCounters := { s.dispatchCounters with gapRefusals := bump s.dispatchCounters.gapRefusals } }
        .gap 0
    | .equal => takeExpected s seq es

/-- DISPATCH (R120); entries that break the length rule never reach the Dispatch Unit (R119, R181). -/
def execDispatch (seq : Word16) (entries : List DispatchEntry) (s : State) : Host.Outcome State Fault Refusal :=
  live s fun s =>
    if dispatchLengthRule entries then received s fun s => takeDispatch s seq entries else countBadLength s

end Sys2Proof.Machine
end

