-- ==== Sys2Proof/Decode.lean ====
section
/-! DEFINITION. Received bytes to commands: the reception checks of R101 with the layouts of chapter 10, the concentrator's side of the same layouts (an encoder), and the host's decodeTableWord. -/

namespace Sys2Proof

open Machine

/-- Why the Trunk Receiver discards a frame, one per counter of R101. -/
inductive RxDiscard where
  | badCheck
  | badLength
  | unknownKind
  | wrongUnit
  | inOffline
  deriving DecidableEq, Repr

/-- The walk over the entries of a DISPATCH body: `n` entries, each whole and of payload length 120 or less, and nothing left over (R181). -/
def parseEntries : Nat → List Byte → Option (List DispatchEntry)
  | 0, [] => some []
  | 0, _ :: _ => none
  | n + 1, port :: node :: chanFlags :: len :: rest =>
    if len.toNat ≤ 120 ∧ len.toNat ≤ rest.length then
      (parseEntries n (rest.drop len.toNat)).map (⟨port, node, chanFlags, rest.take len.toNat⟩ :: ·)
    else none
  | _ + 1, _ => none

/-- Command and parameter part of a MGMT_REQUEST: the exact parameter length for a known code, any for an unknown one (R179). -/
def parseRequest (id : Word16) (code : Byte) (ps : List Byte) : Option Instr :=
  if code = codeIdentify then (match ps with | [] => some (.identify id) | _ => none)
  else if code = codeReadStatus then (match ps with | [] => some (.readStatus id) | _ => none)
  else if code = codeReadSlots then (match ps with | [] => some (.readSlots id) | _ => none)
  else if code = codeGetConfig then (match ps with | [] => some (.getConfig id) | _ => none)
  else if code = codeSetConfig then
    (match ps with
      | [pc, pw1, pw0, at1, at0, rl, ma, dp, pm1, pm0, er, em1, em0] =>
        some (.setConfig id ⟨pc, word16 pw1 pw0, word16 at1 at0, rl, ma, dp, word16 pm1 pm0, er, word16 em1 em0⟩)
      | _ => none)
  else if code = codeWriteMatch then
    (match ps with
      | [ix, v, p, lo, hi, ch, a, pr] => some (.writeMatch id ix ⟨v, p, lo, hi, ch, a, pr⟩)
      | _ => none)
  else if code = codeReadMatch then (match ps with | [ix, bank] => some (.readMatch id ix bank) | _ => none)
  else if code = codeCommitMatch then (match ps with | [] => some (.commitMatch id) | _ => none)
  else if code = codeWriteProfile then
    (match ps with
      | [pid, v, d1, d0, c, rl, bl1, bl0, it1, it0, al1, al0, t, st] =>
        some (.writeProfile id pid
          ⟨v, word16 d1 d0, c, rl, word16 bl1 bl0, word16 it1 it0, word16 al1 al0, t, st⟩)
      | _ => none)
  else if code = codeReadProfile then (match ps with | [pid] => some (.readProfile id pid) | _ => none)
  else if code = codeWriteTemplate then
    (match ps with
      | t :: len :: bytes => if bytes.length = len.toNat then some (.writeTemplate id t len bytes) else none
      | _ => none)
  else if code = codeReadTemplate then (match ps with | [t] => some (.readTemplate id t) | _ => none)
  else if code = codeFlush then (match ps with | [p] => some (.flush id p) | _ => none)
  else if code = codeQuiesce then (match ps with | [t1, t0] => some (.quiesce id (word16 t1 t0)) | _ => none)
  else if code = codeResume then (match ps with | [] => some (.resume id) | _ => none)
  else if code = codePortControl then
    (match ps with | [p, e, r, l] => some (.portControl id p e r l) | _ => none)
  else if code = codeReadPort then (match ps with | [p] => some (.readPort id p) | _ => none)
  else if code = codeReadCounters then
    (match ps with | [g, p, f, c, cl] => some (.readCounters id g p f c cl) | _ => none)
  else if code = codeResetPart then (match ps with | [l] => some (.resetPart id l) | _ => none)
  else some (.unknownCommand id code ps)

/-- The body of a received frame of a known kind; none when it breaks the length rule of its kind (R176, R178, R179, R181). -/
def parseBody (kind : Byte) (body : List Byte) : Option Instr :=
  if kind = kindSync then (match body with | [] => some .sync | _ => none)
  else if kind = kindBundleAck then (match body with | [a, b] => some (.bundleAck (word16 a b)) | _ => none)
  else if kind = kindBundleNak then (match body with | [a, b] => some (.bundleNak (word16 a b)) | _ => none)
  else if kind = kindMgmtRequest then
    (match body with | a :: b :: code :: ps => parseRequest (word16 a b) code ps | _ => none)
  else
    (match body with
      | a :: b :: n :: rest =>
        if 1 ≤ n.toNat ∧ n.toNat ≤ 8 then (parseEntries n.toNat rest).map (.dispatch (word16 a b)) else none
      | _ => none)

/-- The checks of R101, in its order, on the bytes of a frame whose last byte has arrived with carrier present. -/
def receiveFrame (unitNumber : BitVec 4) (offline : Bool) (frame : List Byte) : Except RxDiscard Instr :=
  if frame.length < 8 ∨ 2104 < frame.length then .error .badLength
  else
    let covered := frame.take (frame.length - 4)
    if frame.drop (frame.length - 4) ≠ be32 (crc32 covered) then .error .badCheck
    else match covered with
      | kind :: unit :: len1 :: len0 :: body =>
        if ¬ takenKinds.contains kind then .error .unknownKind
        else if (word16 len1 len0).toNat ≠ frame.length then .error .badLength
        else match parseBody kind body with
          | none => .error .badLength
          | some i =>
            if unit ≠ unitNumber.setWidth 8 then .error .wrongUnit
            else if offline = true ∧ i ≠ .sync then .error .inOffline
            else .ok i
      | _ => .error .badLength

/-- A DISPATCH entry as the concentrator sends it (R181). -/
def DispatchEntry.bytes (e : DispatchEntry) : List Byte :=
  e.port :: e.node :: e.chanFlags :: byteOf e.payload.length :: e.payload

/-- A match record on the trunk (R180). -/
def MatchRecord.bytes (r : MatchRecord) : List Byte :=
  [r.valid, r.port, r.nodeLow, r.nodeHigh, r.channel, r.action, r.profile]

/-- A profile record on the trunk (R180). -/
def ProfileRecord.bytes (r : ProfileRecord) : List Byte :=
  r.valid :: (be16 r.destination ++ (r.cls :: r.recordLimit :: (be16 r.byteLimit ++ be16 r.idleTime ++ be16 r.ageLimit
    ++ [r.template, r.stamp])))

/-- A configuration record on the trunk (R180). -/
def ConfigRecord.bytes (r : ConfigRecord) : List Byte :=
  r.paceCount :: (be16 r.paceWindow ++ be16 r.ackTimeout ++ (r.retryLimit :: r.missAction :: r.defaultProfile ::
    (be16 r.poolLowMark ++ (r.expressRun :: be16 r.eventMask))))

/-- The body of a MGMT_REQUEST (R179). -/
def requestBody (id : Word16) (code : Byte) (params : List Byte) : List Byte := be16 id ++ (code :: params)

/-- Kind code and body of the frame that carries a command of the concentrator; none for the part's own steps and for the pins. -/
def Instr.kindAndBody : Instr → Option (Byte × List Byte)
  | .characterArrival _ _ _ => none
  | .byteGapTimerExpiry _ => none
  | .classifierTake => none
  | .idleTimeout _ => none
  | .ageTimeout _ => none
  | .slotMove _ => none
  | .startHistoryAgeing => none
  | .helloStart => none
  | .helloComplete => none
  | .controlFrameStart => none
  | .controlFrameComplete => none
  | .eventFrameStart => none
  | .eventFrameComplete => none
  | .firstTransmissionStart => none
  | .retransmissionStart => none
  | .retryCheckAtLimit => none
  | .bundleTransmissionComplete => none
  | .ackTimerExpiry => none
  | .helloTimerExpiry => none
  | .carrierLoss => none
  | .carrierGain => none
  | .trunkFrameDiscard _ => none
  | .sync => some (kindSync, [])
  | .bundleAck seq => some (kindBundleAck, be16 seq)
  | .bundleNak seq => some (kindBundleNak, be16 seq)
  | .dispatch seq es =>
    some (kindDispatch, be16 seq ++ (byteOf es.length :: es.flatMap DispatchEntry.bytes))
  | .fieldFrameComplete _ => none
  | .identify id => some (kindMgmtRequest, requestBody id codeIdentify [])
  | .readStatus id => some (kindMgmtRequest, requestBody id codeReadStatus [])
  | .readSlots id => some (kindMgmtRequest, requestBody id codeReadSlots [])
  | .getConfig id => some (kindMgmtRequest, requestBody id codeGetConfig [])
  | .setConfig id r => some (kindMgmtRequest, requestBody id codeSetConfig r.bytes)
  | .writeMatch id ix r => some (kindMgmtRequest, requestBody id codeWriteMatch (ix :: r.bytes))
  | .readMatch id ix bank => some (kindMgmtRequest, requestBody id codeReadMatch [ix, bank])
  | .commitMatch id => some (kindMgmtRequest, requestBody id codeCommitMatch [])
  | .writeProfile id p r => some (kindMgmtRequest, requestBody id codeWriteProfile (p :: r.bytes))
  | .readProfile id p => some (kindMgmtRequest, requestBody id codeReadProfile [p])
  | .writeTemplate id t len bytes => some (kindMgmtRequest, requestBody id codeWriteTemplate (t :: len :: bytes))
  | .readTemplate id t => some (kindMgmtRequest, requestBody id codeReadTemplate [t])
  | .flush id p => some (kindMgmtRequest, requestBody id codeFlush [p])
  | .quiesce id t => some (kindMgmtRequest, requestBody id codeQuiesce (be16 t))
  | .resume id => some (kindMgmtRequest, requestBody id codeResume [])
  | .portControl id p e r l => some (kindMgmtRequest, requestBody id codePortControl [p, e, r, l])
  | .readPort id p => some (kindMgmtRequest, requestBody id codeReadPort [p])
  | .readCounters id g p f c cl => some (kindMgmtRequest, requestBody id codeReadCounters [g, p, f, c, cl])
  | .resetPart id l => some (kindMgmtRequest, requestBody id codeResetPart [l])
  | .unknownCommand id code ps => some (kindMgmtRequest, requestBody id code ps)
  | .drainTimerExpiry => none
  | .resetDeadline => none
  | .powerOn => none
  | .resetNAsserted => none
  | .pinResetComplete _ => none

/-- The frame the concentrator sends for a command, addressed to `unitNumber` (R176). -/
def Instr.frame (unitNumber : BitVec 4) (i : Instr) : Option (List Byte) :=
  i.kindAndBody.map fun kb => trunkFrame kb.1 unitNumber kb.2

/-- The command a word spells by the table's bits: the table gives no row bits, so none (log 29). -/
def decodeTableWord (_nbits _w : Nat) : Option Instr := none

end Sys2Proof
end

