-- ==== Sys2Proof/Machine/LinkOps.lean ====
section
/-! DEFINITION. The Trunk Transmitter's shared operations: arbiter conditions (R103), Pacer (R86 to R88), class choice (R84), Retention List (R107 to R112), ack timer (R109), entry to STALLED (R114). -/

namespace Sys2Proof.Machine

/-! ### Retention List -/

/-- Sequence of the oldest retained bundle; the next bundle sequence when none is retained (R97). -/
def State.oldestSeq (s : State) : Word16 :=
  match s.retention with
  | [] => s.nextSeq
  | e :: _ => e.seq

/-- What HELLO and SYNC_ACK carry, read now (R97, R99). -/
def State.helloFields (s : State) : HelloFields :=
  ⟨s.resetCause, Config.revision, s.oldestSeq, s.retention.length⟩

/-- Position of sequence `n` in the Retention List, when it is retained (R107). -/
def State.retainedIndex (s : State) (n : Word16) : Option Nat :=
  match s.retention with
  | [] => none
  | e :: _ => if (n - e.seq).toNat < s.retention.length then some (n - e.seq).toNat else none

/-- The retained bundle of a sequence is the one being transmitted: an acknowledged bundle in transmission is no longer retained (R111; log 15). -/
def State.beingSent (s : State) (seq : Word16) : Bool :=
  match s.tx with
  | some (.bundle f) => f.seq == seq && s.releasedHold.isNone
  | _ => false

/-- Remove the oldest `k` retained bundles, oldest first: each chain is returned, or passes to the released-bundle hold when its bundle is being transmitted (R111 (1), (2)). -/
def removeOldest : Nat → State → State
  | 0, s => s
  | k + 1, s =>
    match s.retention with
    | [] => s
    | e :: rest =>
      let s' : State := { s with retention := rest }
      if s.beingSent e.seq then removeOldest k { s' with releasedHold := some e.desc.chain }
      else removeOldest k (giveBack s' e.desc.chain)

/-- Empty the released-bundle hold at the end of a bundle transmission (R111). -/
def returnHold (s : State) : State :=
  match s.releasedHold with
  | none => s
  | some chain => giveBack { s with releasedHold := none } chain

/-- Where the retransmit pointer stands after removals: kept while its bundle is retained, else the new oldest, or clear (R108). -/
def State.movedPointer (s : State) : Option Word16 :=
  match s.retransmitPtr with
  | none => none
  | some p =>
    if s.retention.any (fun e => e.seq == p) then some p
    else match s.retention with
      | [] => none
      | e :: _ => some e.seq

/-- The ack timer started now (R109). -/
def State.ackDeadline (s : State) : PartTime := s.partTime + s.config.ackTimeout.setWidth 32

/-- The ack timer after a change of the oldest retained bundle (R109): started while UP for a new oldest that has its completion mark and is not being transmitted, else stopped. -/
def State.followOldest (s : State) : Option PartTime :=
  match s.retention with
  | [] => none
  | e :: _ => if s.link = .up ∧ e.completed = true ∧ s.beingSent e.seq = false then some s.ackDeadline else none

/-- The retained bundle after the one of sequence `p`, oldest first (R108 (4)). -/
def nextAfter (p : Word16) : List Retained → Option Word16
  | e :: e' :: rest => if e.seq = p then some e'.seq else nextAfter p (e' :: rest)
  | _ => none

/-- Change the retained bundle of sequence `p`. -/
def modRetained (p : Word16) (f : Retained → Retained) (l : List Retained) : List Retained :=
  l.map fun e => if e.seq = p then f e else e

/-- The retained bundle at the retransmit pointer. -/
def State.pointed (s : State) : Option Retained :=
  match s.retransmitPtr with
  | none => none
  | some p => s.retention.find? fun e => e.seq == p

/-- Entry to STALLED (R114). -/
def stall (s : State) : State :=
  let s : State :=
    { s with
      link := .stalled
      retransmitPtr := none
      ackTimer := none
      trunk := { s.trunk with stalls := bump s.trunk.stalls } }
  match s.retention with
  | [] => s
  | e :: _ => raise s (.linkStalled e.seq e.retry)

/-! ### Arbiter, class choice, Pacer -/

/-- Control Queue and Event Queue frames may start: UP or STALLED (R95). -/
def State.linkCarries (s : State) : Bool := s.link != .offline

/-- The arbiter comes to its bundle candidates: transmitter free, UP, no control frame and no event waiting (R103). -/
def State.bundleTurn (s : State) : Bool :=
  s.tx.isNone && s.link == .up && s.controlQueue.isEmpty && s.eventQueue.isEmpty

/-- An entry of the Start History is due to age out: its time plus PACE_WINDOW has come (R87). -/
def State.aged (s : State) (start : PartTime) : Bool :=
  reached s.partTime (start + s.config.paceWindow.setWidth 32)

/-- The Start History once every entry due to age out has left, from the head (R87). -/
def State.standingStarts (s : State) : List PartTime := s.startHistory.dropWhile s.aged

/-- The Pacer's permission, against the Start History as the request finds it: a request taken before an ageing of the same tick sees the entry still standing (R88, R89; log 8). -/
def State.permitted (s : State) : Bool :=
  s.config.paceCount == 0 || decide (s.startHistory.length < s.config.paceCount.toNat)

/-- The Start History after a permitted bundle start (R86). -/
def State.recordedStarts (s : State) : List PartTime :=
  if s.config.paceCount = 0 then s.startHistory else s.startHistory ++ [s.partTime]

/-- One of the ageings that are due is a release: it brings the number of entries below PACE_COUNT (R87). -/
def State.releaseDue (s : State) : Bool :=
  !s.permitted && decide (s.standingStarts.length < s.config.paceCount.toNat)

/-- The queue a new bundle is taken from (R84). -/
def State.chosenClass (s : State) : Option BundleClass :=
  match s.expressQueue, s.bulkQueue with
  | [], [] => none
  | [], _ :: _ => some .bulk
  | _ :: _, [] => some .express
  | _ :: _, _ :: _ => if s.expressRun < s.config.expressRun.toNat then some .express else some .bulk

/-- The express-run count after a first transmission start from a class (R83). -/
def State.runAfter (s : State) (cls : BundleClass) : Nat :=
  match cls with
  | .bulk => 0
  | .express => if s.bulkQueue.isEmpty then 0 else s.expressRun + 1

end Sys2Proof.Machine
end

