-- ==== Sys2Proof/Machine/ResetOps.lean ====
section
/-! DEFINITION. The resets (section 8.6): the values every block takes, by kind, and the performing of a pending reset. The pins and what comes to them, the block storage's bytes and the queue of commands stay as they are (logs 9, 11, 12). -/

namespace Sys2Proof.Machine

/-- Every block at its pin reset value, with the unit number sampled from the straps and the HELLO timer started if carrier is present (R97, R100, R118). The reset cause is kept for the caller to set. -/
def resetValues (s : State) : State :=
  { State.reset with
    carrier := s.carrier
    straps := s.straps
    strapChanges := s.strapChanges
    supplyGood := s.supplyGood
    resetNLow := s.resetNLow
    unitNumber := s.straps
    blockMem := s.blockMem
    helloTimer := if s.carrier then .due else .stopped
    resetCause := s.resetCause
    pending := s.pending }

/-- A port after a TRAFFIC reset: settings kept, receiver in HUNT if enabled, everything else as at a pin reset (R21, R135). -/
def Port.trafficReset (port : Port) : Port :=
  { Port.reset with
    enabled := port.enabled
    bitRate := port.bitRate
    maxLen := port.maxLen
    rx := if port.enabled then .hunt else .off }

/-- A reset by level (R157, R158, section 8.6): FULL does everything a pin reset does; TRAFFIC keeps port settings, both Match Table banks, profiles, templates, global configuration and unit number. -/
def performReset (s : State) : ResetLevel → State
  | .full => { resetValues s with resetCause := .commandFull }
  | .traffic =>
    { resetValues s with
      ports := #v[s.ports[0].trafficReset, s.ports[1].trafficReset, s.ports[2].trafficReset, s.ports[3].trafficReset]
      active := s.active
      shadow := s.shadow
      profiles := s.profiles
      templates := s.templates
      config := s.config
      unitNumber := s.unitNumber
      resetCause := .commandTraffic }

/-- The end of the transmission of a Control Queue frame, by completion or abort: a pending reset that waits for it is performed (R157 (1), (2)). -/
def controlEnded (s : State) (e : ControlEntry) : State :=
  if e.awaited then
    match s.pendingReset with
    | some p => performReset s p.level
    | none => s
  else s

/-- The reply a pending reset waits for is being transmitted (R157). -/
def State.awaitedStarted (s : State) : Bool :=
  match s.tx with
  | some (.control e) => e.awaited
  | _ => false

end Sys2Proof.Machine
end

