-- ==== Sys2Proof/Machine/Receiver.lean ====
section
/-! DEFINITION. The trunk receiver and the link: carrier, discarded frames, SYNC, acknowledgements (R95 to R102, R111 to R113). -/

namespace Sys2Proof.Machine

/-- The abort of the transmission in progress, with the result its kind gives (R104, R111, R165). -/
def abortTransmission (s : State) : State :=
  match s.tx with
  | none => s
  | some (.hello _) => { s with tx := none }
  | some (.control _) => { s with tx := none }
  | some (.event _ lost) =>
    { s with
      tx := none
      lostEvents := raiseLost s.lostEvents (lost.toNat + 1)
      mgmt := { s.mgmt with eventsLost := bump s.mgmt.eventsLost } }
  | some (.bundle _) => returnHold { s with tx := none }

/-- A SYNC_ACK of the Control Queue (R96 (4)). -/
def ControlEntry.isSyncAck (e : ControlEntry) : Bool :=
  match e.frame with
  | .syncAck _ _ => true
  | _ => false

/-- The steps of R96, without the reset that the abort of a RESET_PART reply brings. -/
def linkDown (s : State) : State :=
  let s := abortTransmission s
  { s with
    carrier := false
    ackTimer := none
    retransmitPtr := none
    controlQueue := s.controlQueue.filter fun e => !e.isSyncAck
    link := .offline
    helloTimer := .stopped
    trunk := { s.trunk with carrierLosses := bump s.trunk.carrierLosses } }

/-- Carrier loss: R96, then the reset that waited for the aborted reply (R157 (2)). -/
def loseCarrier (s : State) : State :=
  match s.tx with
  | some (.control e) => controlEnded (linkDown s) e
  | _ => linkDown s

/-- CARRIER_LOSS (R96): a change of TRK_CD to no carrier. While the part is held in reset only the pin changes (log 12). -/
def execCarrierLoss (s : State) : Host.Outcome State Fault Refusal :=
  .next (if !s.carrier then s else if s.held then { s with carrier := false } else loseCarrier s)

/-- Carrier gain: in OFFLINE the HELLO timer starts with a HELLO due (R97). -/
def gainCarrier (s : State) : State :=
  { s with carrier := true, helloTimer := if s.link = .offline then .due else s.helloTimer }

/-- CARRIER_GAIN (R97): a change of TRK_CD to carrier present. While the part is held in reset only the pin changes (log 12). -/
def execCarrierGain (s : State) : Host.Outcome State Fault Refusal :=
  .next (if s.carrier then s else if s.held then { s with carrier := true } else gainCarrier s)

/-- The TRUNK counter of the check a frame fails (R101, R117). -/
def TrunkCounters.countDiscard (c : TrunkCounters) : RxDiscard → TrunkCounters
  | .badCheck => { c with badCheck := bump c.badCheck }
  | .badLength => { c with badLength := bump c.badLength }
  | .unknownKind => { c with unknownKind := bump c.unknownKind }
  | .wrongUnit => { c with wrongUnit := bump c.wrongUnit }
  | .inOffline => { c with inOffline := bump c.inOffline }

/-- A received frame that fails a check is discarded and counted once; it has no other effect (R101). A frame that passes every check is not this event (log 20). -/
def discardFrame (s : State) (frame : List Byte) : State :=
  if !s.carrier then s
  else match receiveFrame s.unitNumber (s.link == .offline) frame with
    | .ok _ => s
    | .error why => { s with trunk := s.trunk.countDiscard why }

/-- TRUNK_FRAME_DISCARD (R101). -/
def execTrunkFrameDiscard (frame : List Byte) (s : State) : Host.Outcome State Fault Refusal :=
  live s fun s => discardFrame s frame

/-- A SYNC with carrier present: taken whole when a SYNC_ACK has a free place, else dropped (R98, R99). -/
def takeSync (s : State) : State :=
  if !s.carrier then s
  else if !s.syncAckRoom then { s with trunk := { s.trunk with syncsDropped := bump s.trunk.syncsDropped } }
  else
    let wasStalled := s.link == .stalled
    let ack : ControlEntry := ⟨.syncAck s.helloFields s.expectedDispatch, false⟩
    let s : State :=
      { s with
        retention := s.retention.map fun e => { e with retry := 0 }
        retransmitPtr := s.retention.head?.map Retained.seq
        ackTimer := none
        helloTimer := .stopped
        link := .up
        controlQueue := s.controlQueue ++ [ack]
        trunk := { s.trunk with syncsTaken := bump s.trunk.syncsTaken } }
    if wasStalled then raise s (.linkResynced s.retention.length) else s

/-- SYNC (R98). -/
def execSync (s : State) : Host.Outcome State Fault Refusal := live s takeSync

/-- A BUNDLE_ACK: the oldest bundles through `n` are removed, then pointer and ack timer follow; or a stray (R111, R113). -/
def takeAck (s : State) (n : Word16) : State :=
  match s.retainedIndex n with
  | none => { s with trunk := { s.trunk with strayAck := bump s.trunk.strayAck } }
  | some k =>
    let s := removeOldest (k + 1) s
    { s with
      retransmitPtr := s.movedPointer
      ackTimer := s.followOldest
      trunk := { s.trunk with acks := bump s.trunk.acks } }

/-- BUNDLE_ACK (R111). -/
def execBundleAck (seq : Word16) (s : State) : Host.Outcome State Fault Refusal :=
  live s fun s => received s fun s => takeAck s seq

/-- A BUNDLE_NAK: the bundles older than `n` are removed, the pointer is set to `n` and the ack timer stops; or a stray (R112, R113). -/
def takeNak (s : State) (n : Word16) : State :=
  match s.retainedIndex n with
  | none => { s with trunk := { s.trunk with strayNak := bump s.trunk.strayNak } }
  | some k =>
    let s := removeOldest k s
    { s with
      retransmitPtr := some n
      ackTimer := none
      trunk := { s.trunk with naks := bump s.trunk.naks } }

/-- BUNDLE_NAK (R112). -/
def execBundleNak (seq : Word16) (s : State) : Host.Outcome State Fault Refusal :=
  live s fun s => received s fun s => takeNak s seq

end Sys2Proof.Machine
end

