-- ==== Sys2Proof/Machine/Resets.lean ====
section
/-! DEFINITION. The reset deadline and the pin reset (R157, R158). -/

namespace Sys2Proof.Machine

/-- The deadline of a pending reset, reached while its reply has not started: the reset is performed at once (R157 (3)). -/
def expireReset (s : State) : State :=
  match s.pendingReset with
  | some p => if reached s.partTime p.deadline ∧ s.awaitedStarted = false then performReset s p.level else s
  | none => s

/-- RESET_DEADLINE (R157). -/
def execResetDeadline (s : State) : Host.Outcome State Fault Refusal := live s expireReset

/-- Every block held at its pin reset value: as after a pin reset, with the HELLO timer not yet started (R158; log 12). -/
def heldValues (s : State) : State := { resetValues s with helloTimer := .stopped }

/-- POWER_ON: the power-on detector holds the part until the supply is good; cause POWER (R158). -/
def execPowerOn (s : State) : Host.Outcome State Fault Refusal :=
  .next { heldValues s with supplyGood := false, resetCause := .power }

/-- RESET_N goes low: cause PIN, or POWER within a power-on; a pending reset is superseded (R158). -/
def execResetNAsserted (s : State) : Host.Outcome State Fault Refusal :=
  .next { heldValues s with resetNLow := true, resetCause := if s.supplyGood then .pin else .power }

/-- RESET_N is high and the supply is good: the straps are sampled, the HELLO timer starts if carrier is present, and the part works from its pin reset values (R97, R100, R158). A part that is not held has no pin reset to complete (log 12). -/
def execPinResetComplete (straps : BitVec 4) (s : State) : Host.Outcome State Fault Refusal :=
  .next (if s.held then resetValues { s with straps := straps, supplyGood := true, resetNLow := false } else s)

end Sys2Proof.Machine
end

