-- ==== Sys2Proof/Machine/Slots.lean ====
section
/-! DEFINITION. The Slot Table's own events: idle and age expiries, and the move of a closed bundle (R45, R46, R63). -/

namespace Sys2Proof.Machine

/-- An idle expiry: taken when part time has reached the deadline of an OPEN slot, else void (R45, R47). -/
def idleExpiry (s : State) (n : SlotNo) : State :=
  match s.slots[n] with
  | .opened _ (some d) _ => if reached s.partTime d then closeSlot s n .idleTimeout else s
  | _ => s

/-- IDLE_TIMEOUT (R45). -/
def execIdleTimeout (slot : SlotNo) (s : State) : Host.Outcome State Fault Refusal :=
  live s fun s => idleExpiry s slot

/-- An age expiry: taken when part time has reached the deadline of an OPEN slot, else void (R46, R47). -/
def ageExpiry (s : State) (n : SlotNo) : State :=
  match s.slots[n] with
  | .opened _ _ (some d) => if reached s.partTime d then closeSlot s n .ageTimeout else s
  | _ => s

/-- AGE_TIMEOUT (R46). -/
def execAgeTimeout (slot : SlotNo) (s : State) : Host.Outcome State Fault Refusal :=
  live s fun s => ageExpiry s slot

/-- SLOT_MOVE of one class (R63, R80). -/
def execSlotMove (cls : BundleClass) (s : State) : Host.Outcome State Fault Refusal :=
  live s fun s => moveHead s cls

end Sys2Proof.Machine
end

