-- ==== Sys2Proof/Machine/Transmitter.lean ====
section
/-! DEFINITION. The trunk transmitter: the starts the arbiter makes, their ends, the Start History, the HELLO timer and the ack timer (chapters 5 and 6, R165). A start whose conditions in R103 do not hold does not come about (log 1). -/

namespace Sys2Proof.Machine

/-- An ageing: the head entry leaves when its time plus PACE_WINDOW has come (R87). -/
def ageHistory (s : State) : State :=
  match s.startHistory with
  | [] => s
  | e :: rest => if s.aged e then { s with startHistory := rest } else s

/-- START_HISTORY_AGEING (R87). -/
def execStartHistoryAgeing (s : State) : Host.Outcome State Fault Refusal := live s ageHistory

/-- The start of a due HELLO; the next falls due 100 ms after it (R97, R103, R104). -/
def startHello (s : State) : State :=
  if s.tx = none ∧ s.link = .offline ∧ s.helloTimer = .due then
    { s with
      tx := some (.hello s.helloFields)
      helloTimer := .waiting (s.partTime + Config.helloPeriod) }
  else s

/-- HELLO_START (R97). -/
def execHelloStart (s : State) : Host.Outcome State Fault Refusal := live s startHello

/-- The completion of a HELLO (R104). -/
def completeHello (s : State) : State :=
  match s.tx with
  | some (.hello _) => { s with tx := none }
  | _ => s

/-- HELLO_COMPLETE (R104). -/
def execHelloComplete (s : State) : Host.Outcome State Fault Refusal := live s completeHello

/-- Expiry of the HELLO timer: the next HELLO is due (R97). -/
def expireHello (s : State) : State :=
  match s.helloTimer with
  | .waiting d => if reached s.partTime d then { s with helloTimer := .due } else s
  | _ => s

/-- HELLO_TIMER_EXPIRY (R97). -/
def execHelloTimerExpiry (s : State) : Host.Outcome State Fault Refusal := live s expireHello

/-- The start of the head of the Control Queue, in UP or STALLED (R103, R104, R105). -/
def startControl (s : State) : State :=
  match s.controlQueue with
  | [] => s
  | e :: rest =>
    if s.tx = none ∧ s.linkCarries = true then { s with tx := some (.control e), controlQueue := rest } else s

/-- CONTROL_FRAME_START (R104). -/
def execControlFrameStart (s : State) : Host.Outcome State Fault Refusal := live s startControl

/-- The completion of a Control Queue frame; a pending reset that waits for it follows (R104, R157 (1)). -/
def completeControl (s : State) : State :=
  match s.tx with
  | some (.control e) => controlEnded { s with tx := none } e
  | _ => s

/-- CONTROL_FRAME_COMPLETE (R104). -/
def execControlFrameComplete (s : State) : Host.Outcome State Fault Refusal := live s completeControl

/-- The start of the head of the Event Queue, with no control frame waiting: the frame carries the lost-event count as it stands, the first frame after a reset too (the model's choice, log 30), and the count becomes 0 (R103, R165). -/
def startEvent (s : State) : State :=
  match s.eventQueue with
  | [] => s
  | r :: rest =>
    if s.tx = none ∧ s.linkCarries = true ∧ s.controlQueue = [] then
      { s with tx := some (.event r s.lostEvents), eventQueue := rest, lostEvents := 0 }
    else s

/-- EVENT_FRAME_START (R165). -/
def execEventFrameStart (s : State) : Host.Outcome State Fault Refusal := live s startEvent

/-- The completion of an EVENT frame: nothing further changes (R165). -/
def completeEvent (s : State) : State :=
  match s.tx with
  | some (.event _ _) => { s with tx := none }
  | _ => s

/-- EVENT_FRAME_COMPLETE (R165). -/
def execEventFrameComplete (s : State) : Host.Outcome State Fault Refusal := live s completeEvent

/-- The start of a new bundle from the head of the queue of a class (R81, R83, R86, R106), and the move into the place it frees (R81 (3); log 7). -/
def startNewBundle (s : State) (cls : BundleClass) : State :=
  match s.queue cls with
  | [] => s
  | d :: rest =>
    let run := s.runAfter cls
    let starts := s.recordedStarts
    let s := s.setQueue cls rest
    moveHead
      { s with
        tx := some (.bundle ⟨d, s.nextSeq, 0, false⟩)
        retention := s.retention ++ [⟨d, s.nextSeq, 0, false⟩]
        nextSeq := s.nextSeq + 1
        expressRun := run
        startHistory := starts
        trunk := { s.trunk with firstSent := bump s.trunk.firstSent } } cls

/-- A first transmission start, under the arbiter's conditions, the class choice and the Pacer's permission (R84, R88, R103). -/
def startFirst (s : State) : State :=
  if s.bundleTurn = true ∧ s.retransmitPtr = none ∧ s.retention.length < Config.retentionPlaces
      ∧ s.permitted = true then
    match s.chosenClass with
    | none => s
    | some cls => startNewBundle s cls
  else s

/-- FIRST_TRANSMISSION_START (R106). -/
def execFirstTransmissionStart (s : State) : Host.Outcome State Fault Refusal := live s startFirst

/-- The retransmission start of the bundle at the pointer (R108 (1) to (5), R86). -/
def startRetransmission (s : State) : State :=
  match s.pointed with
  | none => s
  | some e =>
    if s.bundleTurn = true ∧ e.retry < s.config.retryLimit.toNat ∧ s.permitted = true then
      { s with
        tx := some (.bundle ⟨e.desc, e.seq, e.retry + 1, true⟩)
        retention := modRetained e.seq (fun r => { r with retry := r.retry + 1 }) s.retention
        ackTimer := if s.oldestSeq = e.seq then none else s.ackTimer
        retransmitPtr := nextAfter e.seq s.retention
        startHistory := s.recordedStarts
        trunk := { s.trunk with retransmissions := bump s.trunk.retransmissions } }
    else s

/-- RETRANSMISSION_START (R108). -/
def execRetransmissionStart (s : State) : Host.Outcome State Fault Refusal := live s startRetransmission

/-- The retry check that finds RETRY_LIMIT reached: the link stalls, and the Pacer is not asked (R108, R114). -/
def retryCheck (s : State) : State :=
  match s.pointed with
  | none => s
  | some e => if s.bundleTurn = true ∧ s.config.retryLimit.toNat ≤ e.retry then stall s else s

/-- RETRY_CHECK_AT_LIMIT (R108). -/
def execRetryCheckAtLimit (s : State) : Host.Outcome State Fault Refusal := live s retryCheck

/-- The completion of a BUNDLE frame: the chain in the released-bundle hold is returned; else the retained bundle gets its completion mark, and the ack timer starts when it is the oldest and the link is UP (R104, R107, R109, R111). -/
def completeBundle (s : State) : State :=
  match s.tx with
  | some (.bundle f) =>
    if s.releasedHold.isSome then returnHold { s with tx := none }
    else
      { s with
        tx := none
        retention := modRetained f.seq (fun r => { r with completed := true }) s.retention
        ackTimer :=
          if s.link = .up ∧ s.retention ≠ [] ∧ s.oldestSeq = f.seq then some s.ackDeadline else s.ackTimer }
  | _ => s

/-- BUNDLE_TRANSMISSION_COMPLETE (R104). -/
def execBundleTransmissionComplete (s : State) : Host.Outcome State Fault Refusal := live s completeBundle

/-- Expiry of the ack timer: the link stalls when the oldest bundle's retry count has reached RETRY_LIMIT, else go-back to the oldest (R110). -/
def expireAck (s : State) : State :=
  match s.ackTimer, s.retention with
  | some d, e :: _ =>
    if reached s.partTime d then
      if s.config.retryLimit.toNat ≤ e.retry then stall s
      else { s with retransmitPtr := some e.seq, ackTimer := none }
    else s
  | _, _ => s

/-- ACK_TIMER_EXPIRY (R110). -/
def execAckTimerExpiry (s : State) : Host.Outcome State Fault Refusal := live s expireAck

end Sys2Proof.Machine
end

