-- ==== Sys2Proof/Machine/Dispatch.lean ====
section
/-! DEFINITION. The effect of each command, one arm per constructor of `Instr`: one direct call of its meaning. -/

namespace Sys2Proof.Machine

def exec (i : Instr) (s : State) : Host.Outcome State Fault Refusal :=
  match i with
  | .characterArrival port value framing => Sys2Proof.Machine.execCharacterArrival port value framing s
  | .byteGapTimerExpiry port => Sys2Proof.Machine.execByteGapTimerExpiry port s
  | .classifierTake => Sys2Proof.Machine.execClassifierTake s
  | .idleTimeout slot => Sys2Proof.Machine.execIdleTimeout slot s
  | .ageTimeout slot => Sys2Proof.Machine.execAgeTimeout slot s
  | .slotMove cls => Sys2Proof.Machine.execSlotMove cls s
  | .startHistoryAgeing => Sys2Proof.Machine.execStartHistoryAgeing s
  | .helloStart => Sys2Proof.Machine.execHelloStart s
  | .helloComplete => Sys2Proof.Machine.execHelloComplete s
  | .controlFrameStart => Sys2Proof.Machine.execControlFrameStart s
  | .controlFrameComplete => Sys2Proof.Machine.execControlFrameComplete s
  | .eventFrameStart => Sys2Proof.Machine.execEventFrameStart s
  | .eventFrameComplete => Sys2Proof.Machine.execEventFrameComplete s
  | .firstTransmissionStart => Sys2Proof.Machine.execFirstTransmissionStart s
  | .retransmissionStart => Sys2Proof.Machine.execRetransmissionStart s
  | .retryCheckAtLimit => Sys2Proof.Machine.execRetryCheckAtLimit s
  | .bundleTransmissionComplete => Sys2Proof.Machine.execBundleTransmissionComplete s
  | .ackTimerExpiry => Sys2Proof.Machine.execAckTimerExpiry s
  | .helloTimerExpiry => Sys2Proof.Machine.execHelloTimerExpiry s
  | .carrierLoss => Sys2Proof.Machine.execCarrierLoss s
  | .carrierGain => Sys2Proof.Machine.execCarrierGain s
  | .trunkFrameDiscard frame => Sys2Proof.Machine.execTrunkFrameDiscard frame s
  | .sync => Sys2Proof.Machine.execSync s
  | .bundleAck seq => Sys2Proof.Machine.execBundleAck seq s
  | .bundleNak seq => Sys2Proof.Machine.execBundleNak seq s
  | .dispatch seq entries => Sys2Proof.Machine.execDispatch seq entries s
  | .fieldFrameComplete port => Sys2Proof.Machine.execFieldFrameComplete port s
  | .identify id => Sys2Proof.Machine.execIdentify id s
  | .readStatus id => Sys2Proof.Machine.execReadStatus id s
  | .readSlots id => Sys2Proof.Machine.execReadSlots id s
  | .getConfig id => Sys2Proof.Machine.execGetConfig id s
  | .setConfig id record => Sys2Proof.Machine.execSetConfig id record s
  | .writeMatch id index record => Sys2Proof.Machine.execWriteMatch id index record s
  | .readMatch id index bank => Sys2Proof.Machine.execReadMatch id index bank s
  | .commitMatch id => Sys2Proof.Machine.execCommitMatch id s
  | .writeProfile id profile record => Sys2Proof.Machine.execWriteProfile id profile record s
  | .readProfile id profile => Sys2Proof.Machine.execReadProfile id profile s
  | .writeTemplate id template length bytes => Sys2Proof.Machine.execWriteTemplate id template length bytes s
  | .readTemplate id template => Sys2Proof.Machine.execReadTemplate id template s
  | .flush id profile => Sys2Proof.Machine.execFlush id profile s
  | .quiesce id timeout => Sys2Proof.Machine.execQuiesce id timeout s
  | .resume id => Sys2Proof.Machine.execResume id s
  | .portControl id port enable bitRate maxLen => Sys2Proof.Machine.execPortControl id port enable bitRate maxLen s
  | .readPort id port => Sys2Proof.Machine.execReadPort id port s
  | .readCounters id group port first count clear => Sys2Proof.Machine.execReadCounters id group port first count clear s
  | .resetPart id level => Sys2Proof.Machine.execResetPart id level s
  | .unknownCommand id code params => Sys2Proof.Machine.execUnknownCommand id code params s
  | .drainTimerExpiry => Sys2Proof.Machine.execDrainTimerExpiry s
  | .resetDeadline => Sys2Proof.Machine.execResetDeadline s
  | .powerOn => Sys2Proof.Machine.execPowerOn s
  | .resetNAsserted => Sys2Proof.Machine.execResetNAsserted s
  | .pinResetComplete straps => Sys2Proof.Machine.execPinResetComplete straps s

end Sys2Proof.Machine
end

