-- ==== Sys2Proof/Machine/Formats.lean ====
section
/-! DEFINITION. The bytes of the frames the part sends: bodies by kind and the frame on the trunk (R176 to R182). -/

namespace Sys2Proof.Machine

/-- Body of a HELLO, and the first five bytes of a SYNC_ACK's (R178). -/
def HelloFields.bytes (h : HelloFields) : List Byte :=
  [h.cause.byte, h.revision] ++ be16 h.oldest ++ [byteOf h.retained]

/-- Body of a MGMT_REPLY (R179). -/
def MgmtReply.bytes (r : MgmtReply) : List Byte := be16 r.id ++ [r.code, r.status.byte] ++ r.result

/-- Code of a DISPATCH_NAK's reason (R181). -/
def NakReason.byte : NakReason → Byte
  | .gap => 1
  | .room => 2
  | .entry => 3

/-- Kind code and body of a Control Queue frame (R176, R178, R179, R181). -/
def ControlFrame.kindAndBody : ControlFrame → Byte × List Byte
  | .mgmtReply r => (0x04, r.bytes)
  | .syncAck h expected => (0x03, h.bytes ++ be16 expected)
  | .dispatchAck seq room => (0x06, be16 seq ++ room.map byteOf)
  | .dispatchNak expected reason index room =>
    (0x07, be16 expected ++ [reason.byte, byteOf index] ++ room.map byteOf)

/-- Code of an UNDELIVERED's reason (R182). -/
def UndeliveredReason.byte : UndeliveredReason → Byte
  | .portOff => 1
  | .length => 2

/-- The parameter part of an event (R182). -/
def Event.params : Event → List Byte
  | .poolLow free => be16 (wordOf free)
  | .poolExhausted => []
  | .intakeOverflow p => [byteOf p.val]
  | .routeMiss p node channel => [byteOf p.val, node, channel.setWidth 8]
  | .linkStalled oldest retry => be16 oldest ++ [byteOf retry]
  | .linkResynced retained => [byteOf retained]
  | .delivered p node channel seq index => [byteOf p.val, node, channel.setWidth 8] ++ be16 seq ++ [byteOf index]
  | .undelivered p node channel seq index reason =>
    [byteOf p.val, node, channel.setWidth 8] ++ be16 seq ++ [byteOf index, reason.byte]
  | .drainDiscard bundles records => byteOf bundles :: be16 (wordOf records)

/-- Body of an EVENT (R182). -/
def eventBody (r : EventRecord) (lost : Word16) : List Byte :=
  be16 r.number ++ [byteOf r.event.code] ++ be32 r.raiseTime ++ be16 lost ++ r.event.params

/-- The bundle header (R177). -/
def BundleTx.header (f : BundleTx) : List Byte :=
  be16 f.seq ++ be16 f.desc.destination
    ++ [byteOf f.desc.profile.val,
      (match f.desc.queueClass with | .express => 0x80#8 | .bulk => 0#8) ||| byteOf f.desc.cause.code,
      byteOf f.desc.recordCount, byteOf f.retry, byteOf f.desc.templateLength,
      (if f.retransmit then 1#8 else 0#8) ||| (if f.desc.stamp then 2#8 else 0#8)]
    ++ be16 (wordOf f.desc.bodyBytes) ++ be32 f.desc.openTime

/-- Body of a BUNDLE: header, then the chain's content, template bytes and entries (R71, R177). -/
def BundleTx.body (m : Memory) (f : BundleTx) : List Byte :=
  f.header ++ readContent m f.desc.chain (f.desc.templateLength + f.desc.bodyBytes)

/-- Kind code and body of a transmission (R176). -/
def Transmission.kindAndBody (m : Memory) : Transmission → Byte × List Byte
  | .hello h => (0x02, h.bytes)
  | .control e => e.frame.kindAndBody
  | .event r lost => (0x05, eventBody r lost)
  | .bundle f => (0x01, f.body m)

/-- The bytes on the trunk of the transmission in progress (R104, R176; log 16). -/
def State.txBytes (s : State) : Option (List Byte) :=
  s.tx.map fun t => trunkFrame (t.kindAndBody s.blockMem).1 s.unitNumber (t.kindAndBody s.blockMem).2

end Sys2Proof.Machine
end

