-- ==== Sys2Proof/Machine/Timebase.lean ====
section
/-! DEFINITION. The tick: what a step does on an empty queue (R1; log 2). Part time rises by one, the straps come to their next level, and the expiries that are due join the queue of commands. -/

namespace Sys2Proof.Machine

/-- The idle and age expiries due on one slot. -/
def slotExpiries (now : PartTime) (n : SlotNo) : Slot → List Instr
  | .opened _ idle age =>
    (match idle with | some d => if reached now d then [.idleTimeout n] else [] | none => [])
      ++ (match age with | some d => if reached now d then [.ageTimeout n] else [] | none => [])
  | _ => []

/-- An expiry, when its deadline has been reached. -/
def expiryOf (now : PartTime) (deadline : Option PartTime) (i : Instr) : List Instr :=
  match deadline with
  | some d => if reached now d then [i] else []
  | none => []

/-- At a release the arbiter makes its choice again, at once: its bundle candidates, in its order (R87, R89, R103; log 8). A candidate that is none has no effect (log 1). -/
def askAgain (s : State) : List Instr :=
  if s.releaseDue then [.retryCheckAtLimit, .retransmissionStart, .firstTransmissionStart] else []

/-- The expiries that are due as part time stands: slots in ascending number, Start History entries and the choice that a release among them calls for, ack timer, HELLO timer, drain timer, reset deadline (log 2). -/
def dueExpiries (s : State) : List Instr :=
  slotNos.flatMap (fun n => slotExpiries s.partTime n s.slots[n])
    ++ (s.startHistory.takeWhile s.aged).map (fun _ => .startHistoryAgeing)
    ++ askAgain s
    ++ expiryOf s.partTime s.ackTimer .ackTimerExpiry
    ++ (match s.helloTimer with | .waiting d => expiryOf s.partTime (some d) .helloTimerExpiry | _ => [])
    ++ expiryOf s.partTime s.drainTimer .drainTimerExpiry
    ++ expiryOf s.partTime (s.pendingReset.map PendingReset.deadline) .resetDeadline

/-- The strap pins at a tick: they take the next level that the outside gives them, or stay; the unit number does not follow (R100; log 11). -/
def moveStraps (s : State) : State :=
  match s.strapChanges with
  | [] => s
  | level :: later => { s with straps := level, strapChanges := later }

/-- One tick of part time; none while the part is held in reset (R1, R158). -/
def tick (s : State) : State :=
  if s.held then s
  else
    let s := moveStraps { s with partTime := s.partTime + 1 }
    { s with pending := dueExpiries s }

end Sys2Proof.Machine
end

