-- ==== Sys2Proof/Safety.lean ====
section
/-! DEFINITION. What a sound state of the part is: the laws of the spec that every step keeps, one predicate for each owner of state, and the words the claims use for when a request is taken and what its reply leaves. -/

namespace Sys2Proof.Safety

open Machine

/-! ### Block Pool (R75) -/

/-- The chain of the bundle in a slot; an IDLE slot holds none. -/
def slotChain : Slot → List BlockNo
  | .idle => []
  | .opened b _ _ => b.chain
  | .closed b _ _ => b.chain

/-- Every block that a bundle holds, holder by holder: slots, Emission Queues, Retention List, released-bundle hold (R74). -/
def heldBlocks (s : State) : List BlockNo :=
  s.slots.toList.flatMap slotChain ++ s.expressQueue.flatMap Descriptor.chain ++ s.bulkQueue.flatMap Descriptor.chain
    ++ s.retention.flatMap (fun e => e.desc.chain) ++ s.releasedHold.getD []

/-- Each block stands exactly once, in the Free List or in the chain of one bundle with one holder (R75). -/
def PoolConserved (s : State) : Prop := ∀ b : BlockNo, (s.freeList ++ heldBlocks s).count b = 1

/-! ### Slot Table (R50, R51, R52, R57, R61) -/

/-- A slot is OPEN. -/
def slotOpen : Slot → Bool
  | .opened _ _ _ => true
  | _ => false

/-- A slot is CLOSED with a queue class. -/
def slotClosedFor (cls : BundleClass) : Slot → Bool
  | .closed _ _ qc => qc == cls
  | _ => false

/-- A slot is CLOSED with cause EVICTED. -/
def slotEvicted : Slot → Bool
  | .closed _ cause _ => cause == .evicted
  | _ => false

/-- The profile id of an OPEN slot's bundle. -/
def openProfile : Slot → Option (Fin 32)
  | .opened b _ _ => some b.snapshot.profile
  | _ => none

/-- Lists and slots agree; one OPEN slot for a profile id; no slot OPEN outside RUN; the eviction mark names an evicted slot and stands only while a record is held; a drain has a slot to wait for. -/
structure SlotTableSound (s : State) : Prop where
  openOrder_nodup : s.openOrder.Nodup
  openOrder_iff : ∀ n : SlotNo, n ∈ s.openOrder ↔ slotOpen s.slots[n] = true
  closeOrder_nodup : ∀ cls, (s.closeOrder cls).Nodup
  closeOrder_iff : ∀ cls, ∀ n : SlotNo, n ∈ s.closeOrder cls ↔ slotClosedFor cls s.slots[n] = true
  one_open : ∀ (n m : SlotNo) (p : Fin 32),
    openProfile s.slots[n] = some p → openProfile s.slots[m] = some p → n = m
  open_in_run : s.openOrder ≠ [] → s.opState = .run
  mark_evicted : ∀ n, s.evictionMark = some n → slotEvicted s.slots[n] = true ∧ s.hold.isSome = true
  drain_waits : s.opState = .draining → s.allIdle = false

/-! ### Field ports (R2, R4, R16, R21, R128, R131) -/

/-- What the receiver holds in each receive state (R4 to R13). -/
def ReceiverSound (port : Port) : Prop :=
  match port.rx with
  | .off => port = port.settle .off
  | .hunt => port = port.settle .hunt
  | .header => port.byteGapRunning = true ∧ port.headerCount ≤ 2
      ∧ port.tail.map List.length = some port.headerCount ∧ port.checkHigh = none ∧ port.payloadCount = 0
  | .payload => port.byteGapRunning = true ∧ port.tail.map List.length = some (3 + port.payloadCount)
      ∧ port.payloadCount < port.declared ∧ port.declared ≤ port.maxLen.toNat ∧ port.checkHigh = none
  | .check => port.byteGapRunning = true ∧ port.tail.map List.length = some (3 + port.declared)
      ∧ port.declared ≤ port.maxLen.toNat
  | .discard => port.byteGapRunning = true ∧ port.tail = none ∧ 1 ≤ port.remaining ∧ port.remaining ≤ 257

/-- A port: its settings in range, OFF exactly when disabled, the FIFO within its 512 bytes, the queue within its 8 places and empty unless a frame is being sent, nothing to send on a disabled port. -/
structure PortSound (port : Port) : Prop where
  maxLen_le : port.maxLen.toNat ≤ 120
  off_iff : port.rx = .off ↔ port.enabled = false
  receiver : ReceiverSound port
  fifo_fits : port.usedBytes ≤ Config.fifoBytes
  fifo_payloads : ∀ r ∈ port.fifo, r.payload.length ≤ 120
  queue_places : port.txQueue.length ≤ Config.portQueuePlaces
  idle_empty : port.sending = none → port.txQueue = []
  disabled_idle : port.enabled = false → port.sending = none

/-- Every port is sound, and a held record's payload is no longer than a frame carries. -/
structure PortsSound (s : State) : Prop where
  ports : ∀ p : PortNo, PortSound s.ports[p]
  held : ∀ h, s.hold = some h → h.taken.record.payload.length ≤ 120

/-! ### Tables and configuration (R25, R32, R35, R151) -/

/-- A match entry within the ranges of R25. -/
def MatchEntryInRange (e : MatchEntry) : Prop :=
  1 ≤ e.nodeLow.toNat ∧ e.nodeLow.toNat ≤ e.nodeHigh.toNat ∧ e.nodeHigh.toNat ≤ 254

/-- A route profile within the ranges of R32. -/
def ProfileInRange (p : Profile) : Prop :=
  1 ≤ p.recordLimit.toNat ∧ p.recordLimit.toNat ≤ 64 ∧ 128 ≤ p.byteLimit.toNat ∧ p.byteLimit.toNat ≤ 2048

/-- A configuration within the ranges of R151. -/
structure ConfigInRange (c : GlobalConfig) : Prop where
  paceCount : c.paceCount.toNat ≤ 15
  paceWindow : 1 ≤ c.paceWindow.toNat ∧ c.paceWindow.toNat ≤ 1000
  ackTimeout : 5 ≤ c.ackTimeout.toNat ∧ c.ackTimeout.toNat ≤ 2000
  retryLimit : 1 ≤ c.retryLimit.toNat ∧ c.retryLimit.toNat ≤ 7
  poolLowMark : c.poolLowMark.toNat ≤ 511
  expressRun : 1 ≤ c.expressRun.toNat ∧ c.expressRun.toNat ≤ 15

/-- Every table entry and configuration item stays in its range, whatever the concentrator writes. -/
structure TablesInRange (s : State) : Prop where
  active : ∀ i : Fin 128, MatchEntryInRange s.active[i]
  shadow : ∀ i : Fin 128, MatchEntryInRange s.shadow[i]
  profiles : ∀ p : Fin 32, ProfileInRange s.profiles[p]
  templates : ∀ i : Fin 8, s.templates[i].length ≤ 32
  config : ConfigInRange s.config

/-! ### Bundles (R43, R44, R53, R71) -/

/-- The content of a chain fills all its blocks but the last, and the last-block bytes of that one (R71). -/
def ChainFits (content : Nat) (chain : List BlockNo) (lastBytes : Nat) : Prop :=
  content + 128 = 128 * chain.length + lastBytes ∧ 1 ≤ lastBytes ∧ lastBytes ≤ 128

/-- The bundle of an OPEN or CLOSED slot: counts within its snapshot's limits, the snapshot in range, the chain as long as the content needs (R41, R53, R71). -/
structure BundleSound (b : Bundle) : Prop where
  recordLimit_le : b.snapshot.recordLimit.toNat ≤ 64
  byteLimit_ge : 128 ≤ b.snapshot.byteLimit.toNat
  byteLimit_le : b.snapshot.byteLimit.toNat ≤ 2048
  template_le : b.snapshot.templateLength ≤ 32
  one_record : 1 ≤ b.recordCount
  records_le : b.recordCount ≤ b.snapshot.recordLimit.toNat
  bytes_le : b.bodyBytes ≤ b.snapshot.byteLimit.toNat
  chain : ChainFits b.contentLength b.chain b.lastBytes

/-- A descriptor of a queue or of the Retention List (R79). -/
structure DescriptorSound (d : Descriptor) : Prop where
  template_le : d.templateLength ≤ 32
  one_record : 1 ≤ d.recordCount
  records_le : d.recordCount ≤ 64
  bytes_le : d.bodyBytes ≤ 2048
  chain : ChainFits (d.templateLength + d.bodyBytes) d.chain d.lastBytes

/-- A slot's bundle is sound; an OPEN one has room for one more record under its record limit (R43). -/
def SlotSound : Slot → Prop
  | .idle => True
  | .opened b _ _ => BundleSound b ∧ b.recordCount < b.snapshot.recordLimit.toNat
  | .closed b _ _ => BundleSound b

/-- Every bundle of the part is sound, wherever it stands. -/
structure BundlesSound (s : State) : Prop where
  slots : ∀ n : SlotNo, SlotSound s.slots[n]
  express : ∀ d ∈ s.expressQueue, DescriptorSound d
  bulk : ∀ d ∈ s.bulkQueue, DescriptorSound d
  retained : ∀ e ∈ s.retention, DescriptorSound e.desc

/-! ### Emission Queues and Pacer (R78, R83, R85) -/

/-- Queue depths, the express-run count and the Start History stay within their bounds. -/
structure EmissionSound (s : State) : Prop where
  express_places : s.expressQueue.length ≤ Config.emissionPlaces
  bulk_places : s.bulkQueue.length ≤ Config.emissionPlaces
  run_le : s.expressRun ≤ 15
  history_le : s.startHistory.length ≤ s.config.paceCount.toNat

/-! ### Retention List, pointer, ack timer, released-bundle hold (R107, R108, R109, R111, R114) -/

/-- The pointer names the bundle at position `i` of the list, and every older one has been resent more often (R108, R114). -/
def PointsAt (l : List Retained) (p : Word16) (i : Nat) : Prop :=
  ∃ e, l[i]? = some e ∧ e.seq = p ∧ ∀ j < i, ∀ e', l[j]? = some e' → e.retry < e'.retry

/-- At most 8 retained bundles with consecutive sequences ending before the next one; retry counts at most 7 that never rise from oldest to newest; the pointer names a retained bundle; the ack timer runs only in UP with a bundle retained; in OFFLINE neither is set. -/
structure RetentionSound (s : State) : Prop where
  places : s.retention.length ≤ Config.retentionPlaces
  consecutive : ∀ i e, s.retention[i]? = some e → e.seq + BitVec.ofNat 16 (s.retention.length - i) = s.nextSeq
  retry_le : ∀ e ∈ s.retention, e.retry ≤ 7
  retry_falls : s.retention.Pairwise fun older newer => newer.retry ≤ older.retry
  pointer : ∀ p, s.retransmitPtr = some p → ∃ i, PointsAt s.retention p i
  timer_up : s.ackTimer.isSome = true → s.link = .up ∧ s.retention ≠ []
  offline_clear : s.link = .offline → s.retransmitPtr = none

/-- The bundle being transmitted is retained, or its chain is the one in the released-bundle hold (R111). -/
structure SendingSound (s : State) : Prop where
  retained : ∀ f, s.tx = some (.bundle f) → s.releasedHold = none →
    ∃ e ∈ s.retention, e.seq = f.seq ∧ e.desc = f.desc
  hold_sent : ∀ chain, s.releasedHold = some chain → ∃ f, s.tx = some (.bundle f) ∧ f.desc.chain = chain

/-! ### Link, HELLO timer, Control Queue (R95, R96, R97, R105) -/

/-- A link that is not OFFLINE has carrier; in OFFLINE only a HELLO is being sent; the HELLO timer runs exactly in OFFLINE with carrier, and never in a held part; the Control Queue keeps its eighth place for a SYNC_ACK, and holds none in OFFLINE. -/
structure LinkSound (s : State) : Prop where
  carrier : s.link ≠ .offline → s.carrier = true ∧ s.held = false
  offline_sends : s.link = .offline → s.tx = none ∨ ∃ h, s.tx = some (.hello h)
  hello : s.held = false → (s.helloTimer ≠ .stopped ↔ s.link = .offline ∧ s.carrier = true)
  hello_held : s.held = true → s.helloTimer = .stopped
  control_places : s.controlQueue.length ≤ Config.controlPlaces
  control_shared : (s.controlQueue.filter fun e => !e.isSyncAck).length ≤ Config.controlShared
  offline_no_syncAck : s.link = .offline → ∀ e ∈ s.controlQueue, e.isSyncAck = false

/-! ### Reply Cache, drain, pending reset (R139, R142, R147, R156) -/

/-- An entry is IN_PROGRESS (R139). -/
def inProgress (e : CacheEntry) : Bool := e.reply.isNone

/-- At most 4 entries with distinct ids, one of them IN_PROGRESS exactly while DRAINING; a stored reply names the entry's id and command; the drain timer runs exactly while DRAINING. -/
structure CacheSound (s : State) : Prop where
  places : s.replyCache.length ≤ Config.cachePlaces
  distinct : (s.replyCache.map CacheEntry.id).Nodup
  progress : s.replyCache.countP inProgress = if s.opState = .draining then 1 else 0
  stored : ∀ e ∈ s.replyCache, ∀ r, e.reply = some r → r.id = e.id ∧ r.code = e.code
  drainTimer : s.drainTimer.isSome = true ↔ s.opState = .draining

/-- A Control Queue frame that a pending reset waits for, in transmission. -/
def awaitedInTx (s : State) : Nat := if s.awaitedStarted then 1 else 0

/-- A pending reset waits for exactly one frame, a MGMT_REPLY in the Control Queue or in transmission; without a pending reset no frame is waited for. -/
structure PendingResetSound (s : State) : Prop where
  one : s.controlQueue.countP ControlEntry.awaited + awaitedInTx s = if s.pendingReset.isSome then 1 else 0
  waits : ∀ e ∈ s.controlQueue, e.awaited = true → ∃ r, e.frame = .mgmtReply r
  started : ∀ e, s.tx = some (.control e) → e.awaited = true → ∃ r, e.frame = .mgmtReply r

/-! ### Event Queue (R162, R164) -/

/-- At most 16 records, whose numbers are consecutive and end before the next event number. -/
structure EventsSound (s : State) : Prop where
  places : s.eventQueue.length ≤ Config.eventPlaces
  numbers : ∀ i r, s.eventQueue[i]? = some r → r.number + BitVec.ofNat 16 (s.eventQueue.length - i) = s.eventNumber

/-! ### Resets (section 8.6) -/

/-- A command taken in `s` resets the part: the pins, the deadline of a pending reset, or the end of the reply it waits for. -/
def performsReset (c : Instr) (s : State) : Bool :=
  match c with
  | .powerOn => true
  | .resetNAsserted => true
  | .pinResetComplete _ => s.held
  | .resetDeadline =>
    !s.held && !s.awaitedStarted && s.pendingReset.any (fun p => reached s.partTime p.deadline)
  | .controlFrameComplete => !s.held && s.awaitedStarted && s.pendingReset.isSome
  | .carrierLoss => !s.held && s.carrier && s.awaitedStarted && s.pendingReset.isSome
  | _ => false

/-- The part after a pin reset, but for its cause and the two lines that hold it: every block at its reset value, the unit number from the straps; the pins and the levels to come to the straps, the bytes of block storage and the waiting commands as they were. -/
def pinValues (s : State) : State :=
  { State.reset with
    carrier := s.carrier
    straps := s.straps
    strapChanges := s.strapChanges
    unitNumber := s.straps
    blockMem := s.blockMem
    pending := s.pending }

/-- The part after a reset ordered by RESET_PART: FULL does everything a pin reset does; TRAFFIC keeps port settings, Match Table, profiles, templates, global configuration and unit number. A HELLO is due if carrier is present. -/
def orderedReset (s : State) : ResetLevel → State
  | .full =>
    { pinValues s with
      resetCause := .commandFull
      helloTimer := if s.carrier then .due else .stopped }
  | .traffic =>
    { pinValues s with
      resetCause := .commandTraffic
      helloTimer := if s.carrier then .due else .stopped
      unitNumber := s.unitNumber
      ports := s.ports.map fun port =>
        { Port.reset with
          enabled := port.enabled
          bitRate := port.bitRate
          maxLen := port.maxLen
          rx := if port.enabled then .hunt else .off }
      active := s.active
      shadow := s.shadow
      profiles := s.profiles
      templates := s.templates
      config := s.config }

/-! ### When a request is taken, and what its reply leaves (R136, R141) -/

/-- The part works and its link carries frames: a frame that is well formed and addressed to it is taken. -/
def Receives (s : State) : Prop := s.held = false ∧ s.carrier = true ∧ s.link ≠ .offline

/-- A request under `id` is executed: it is received, the Control Queue holds 6 frames or fewer, and the id is not in the Reply Cache (R136, R141). -/
structure Executes (s : State) (id : Word16) : Prop where
  receives : Receives s
  room : s.controlQueue.length ≤ 6
  fresh : ∀ e ∈ s.replyCache, e.id ≠ id

/-- The state in which the command of an executed request acts: requests executed has risen, and a full cache has lost its oldest DONE entry (R141). -/
def accepted (s : State) : State :=
  { s with
    mgmt := { s.mgmt with executed := bump s.mgmt.executed }
    replyCache := evictOldestDone s.replyCache }

/-- The state `t` that the command left, with the reply stored in a DONE entry at the tail of the cache and placed at the tail of the Control Queue (R136 (3), R141). -/
def replied (t : State) (id : Word16) (code : Byte) (status : Status) (result : List Byte) : State :=
  { t with
    replyCache := t.replyCache ++ [⟨id, code, some ⟨id, code, status, result⟩⟩]
    controlQueue := t.controlQueue ++ [⟨.mgmtReply ⟨id, code, status, result⟩, false⟩] }

end Sys2Proof.Safety
end

