-- ==== Sys2Proof/Certificates/Slice0/Obligations.lean ====
section
/-! DEFINITION. The statements for the provers: each is a Prop named Obligations.<what it states>. The words they use beside the model's own are in Sys2Proof/Safety.lean. -/

open Sys2Proof Sys2Proof.Machine Sys2Proof.Safety

/-! ### Steps -/

/-- A step takes the command at the front of the queue and is that command's effect on the state with the queue's rest. -/
def Obligations.StepRunsFrontCommand : Prop :=
  ∀ (c : Instr) (s : State), step { s with pending := c :: s.pending } = exec c s

/-- On an empty queue a working part counts one tick of part time, and the expiries that part time has then reached join the queue: an idle or age expiry for each deadline reached of an OPEN slot, one START_HISTORY_AGEING for each due entry at the head of the Start History, and one expiry each of the ack timer, the HELLO timer, the drain timer and the reset deadline where it is due. Where the due ageings bring a full Start History below PACE_COUNT, a release, the arbiter's bundle candidates join once more: the retry check, a retransmission start, a first transmission start. The strap pins take the next level the outside gives them, which leaves the unit number as it is. No other command joins, and nothing else changes. The tick on an empty queue is the model's choice (log 2), and so is the form in which the arbiter asks again (log 8) and in which the straps change (log 11). -/
def Obligations.IdleStepCountsOneTick : Prop :=
  ∀ s : State, s.pending = [] → s.held = false →
    let now := s.partTime + 1
    let once := fun deadline : Option PartTime => if deadline.any (reached now) then 1 else 0
    let ages := fun start : PartTime => reached now (start + s.config.paceWindow.setWidth 32)
    let release := if s.config.paceCount.toNat ≤ s.startHistory.length
      ∧ (s.startHistory.dropWhile ages).length < s.config.paceCount.toNat then 1 else 0
    let due := fun c : Instr => match c with
      | .idleTimeout n => once (match s.slots[n] with | .opened _ idle _ => idle | _ => none)
      | .ageTimeout n => once (match s.slots[n] with | .opened _ _ age => age | _ => none)
      | .startHistoryAgeing => (s.startHistory.takeWhile ages).length
      | .retryCheckAtLimit => release
      | .retransmissionStart => release
      | .firstTransmissionStart => release
      | .ackTimerExpiry => once s.ackTimer
      | .helloTimerExpiry => once (match s.helloTimer with | .waiting d => some d | _ => none)
      | .drainTimerExpiry => once s.drainTimer
      | .resetDeadline => once (s.pendingReset.map PendingReset.deadline)
      | _ => 0
    ∃ t, step s = .next t ∧ (∀ c, t.pending.count c = due c)
      ∧ t = { s with
        partTime := now
        straps := s.strapChanges.headD s.straps
        strapChanges := s.strapChanges.tail
        pending := t.pending }

/-- No command stops the part: each one answers a next state, and leaves the commands that wait as they are. While the part is held in reset, no command but a change of the pins has any effect, and a step on an empty queue changes nothing: neither part time nor the straps advance. The model's own reading is that other commands have no effect in reset hold and that a reset leaves the queue (log 12), and what a step on an empty queue of a held part does (logs 2 and 11). -/
def Obligations.EveryCommandAnswersNext : Prop :=
  (∀ (c : Instr) (s : State), ∃ t, exec c s = .next t ∧ t.pending = s.pending)
  ∧ (∀ s : State, s.held = true →
    (∀ c : Instr, c ≠ .powerOn → c ≠ .resetNAsserted → (∀ straps, c ≠ .pinResetComplete straps) → c ≠ .carrierGain →
      c ≠ .carrierLoss → exec c s = .next s)
    ∧ (s.pending = [] → step s = .next s))

/-! ### Resets -/

/-- State.reset holds the value the spec gives for a pin reset in every field that it gives one for, the receivers' timers and counts and the unit number among them. The model's choices stand in the pins and the reset cause (log 10), in the straps, the levels to come to them and with them the unit number (log 11), in the held check byte (log 19), and in the bytes of block storage (log 9). -/
def Obligations.ResetStateHoldsSpecValues : Prop :=
  let s := State.reset
  s.partTime = 0 ∧ s.supplyGood = true ∧ s.resetNLow = false ∧ s.carrier = false ∧ s.straps = 0
    ∧ s.strapChanges = [] ∧ s.unitNumber = 0
    ∧ (∀ p : PortNo, s.ports[p].enabled = false ∧ s.ports[p].bitRate = .r115200 ∧ s.ports[p].maxLen = 120
      ∧ s.ports[p].rx = .off ∧ s.ports[p].byteGapRunning = false ∧ s.ports[p].headerCount = 0
      ∧ s.ports[p].payloadCount = 0 ∧ s.ports[p].remaining = 0 ∧ s.ports[p].checkHigh = none
      ∧ s.ports[p].fifo = [] ∧ s.ports[p].tail = none ∧ s.ports[p].txQueue = []
      ∧ s.ports[p].sending = none ∧ s.ports[p].counters.items = List.replicate 10 0 ∧ s.intakeArmed[p] = true)
    ∧ s.roundRobin = 0 ∧ s.hold = none
    ∧ (∀ i : Fin 128, s.active[i] = ⟨false, none, 1, 254, none, .drop⟩ ∧ s.shadow[i] = s.active[i]
      ∧ s.matchHits[i] = 0)
    ∧ (∀ p : Fin 32, s.profiles[p] = ⟨false, 0, .bulk, 64, 2048, 0, 0, none, false⟩)
    ∧ (∀ i : Fin 8, s.templates[i] = [])
    ∧ (∀ n : SlotNo, s.slots[n] = .idle)
    ∧ s.openOrder = [] ∧ s.closeExpress = [] ∧ s.closeBulk = [] ∧ s.evictionMark = none
    ∧ s.freeList.map Fin.val = List.range 512 ∧ s.minFree = 512 ∧ s.allocFailures = 0
    ∧ s.poolLowArmed = true ∧ s.poolExhaustedArmed = true ∧ s.blockMem = []
    ∧ s.expressQueue = [] ∧ s.bulkQueue = [] ∧ s.expressRun = 0 ∧ s.startHistory = []
    ∧ s.link = .offline ∧ s.helloTimer = .stopped ∧ s.tx = none ∧ s.controlQueue = [] ∧ s.retention = []
    ∧ s.retransmitPtr = none ∧ s.ackTimer = none ∧ s.nextSeq = 0 ∧ s.releasedHold = none
    ∧ s.expectedDispatch = 0
    ∧ s.opState = .quiesced ∧ s.replyCache = [] ∧ s.config = ⟨0, 100, 50, 3, .drop, 0, 64, 4, 511⟩
    ∧ s.drainTimer = none ∧ s.pendingReset = none ∧ s.resetCause = .power
    ∧ s.eventQueue = [] ∧ s.eventNumber = 0 ∧ s.lostEvents = 0 ∧ s.routeMissArmed = true
    ∧ s.classify.items = List.replicate 7 0 ∧ s.causes.items = List.replicate 13 0
    ∧ s.trunk.items = List.replicate 15 0 ∧ s.dispatchCounters.items = List.replicate 8 0
    ∧ s.mgmt.items = List.replicate 4 0 ∧ s.pending = []

/-- POWER_ON and RESET_N_ASSERTED put every block at its pin reset value and hold the part there; PIN_RESET_COMPLETE samples the straps and lets it work from those values, with a HELLO due if carrier is present. The cause is POWER for a power-on, also when RESET_N falls before the supply is good, else PIN. The model's own are: the bytes of block storage are kept (log 9); the straps come with the operand of PIN_RESET_COMPLETE (log 11), and the unit number before it follows their last sampling (log 13); a part which is not held has no pin reset to complete, and the pins and the waiting commands stay (log 12). -/
def Obligations.PinResetRestoresEveryBlock : Prop :=
  ∀ (s : State) (straps : BitVec 4),
    exec .powerOn s = .next { pinValues s with supplyGood := false, resetNLow := s.resetNLow, resetCause := .power }
    ∧ exec .resetNAsserted s = .next
        { pinValues s with
          supplyGood := s.supplyGood, resetNLow := true, resetCause := if s.supplyGood then .pin else .power }
    ∧ (s.held = true → exec (.pinResetComplete straps) s = .next
        { pinValues s with
          straps := straps, unitNumber := straps, resetCause := s.resetCause
          helloTimer := if s.carrier then .due else .stopped })
    ∧ (s.held = false → exec (.pinResetComplete straps) s = .next s)

/-- A pending reset is performed, whole, at its deadline while its reply has not started, at the completion of that reply's transmission, and at its abort by carrier loss; once the reply has started, the deadline no longer applies. What the reset leaves is orderedReset; the model's own in it are that the bytes of block storage are kept (log 9) and where the straps' level comes from, which FULL samples as it stands then and TRAFFIC does not (log 11). That a RESET_DEADLINE before the deadline, or after the reply's start, changes nothing is the model's reading (log 1). -/
def Obligations.PendingResetIsPerformed : Prop :=
  ∀ (s : State) (p : PendingReset), s.held = false → s.pendingReset = some p →
    (s.awaitedStarted = false → reached s.partTime p.deadline = true →
      exec .resetDeadline s = .next (orderedReset s p.level))
    ∧ (s.awaitedStarted = true ∨ reached s.partTime p.deadline = false → exec .resetDeadline s = .next s)
    ∧ (∀ e, s.tx = some (.control e) → e.awaited = true →
      exec .controlFrameComplete s = .next (orderedReset s p.level)
      ∧ (s.carrier = true → exec .carrierLoss s = .next (orderedReset { s with carrier := false } p.level)))

/-! ### Laws that every step keeps -/

/-- The machine right after reset keeps every law of Sys2Proof/Safety.lean, and its block storage has the canonical form, which is the model's own form of memory (log 9). -/
def Obligations.ResetStateIsSound : Prop :=
  State.reset.blockMem.wf = true ∧ PoolConserved State.reset ∧ SlotTableSound State.reset ∧ PortsSound State.reset
    ∧ TablesInRange State.reset ∧ BundlesSound State.reset ∧ EmissionSound State.reset ∧ RetentionSound State.reset
    ∧ SendingSound State.reset ∧ LinkSound State.reset ∧ CacheSound State.reset ∧ PendingResetSound State.reset
    ∧ EventsSound State.reset

/-- Every step keeps block storage in its canonical form (the model's form of memory, log 9). The event numbers in the Event Queue are consecutive, oldest first, and end before the next event number; it holds at most 16 records. A pending reset waits for exactly one MGMT_REPLY, in the Control Queue or in transmission. -/
def Obligations.StepKeepsMemoryEventsAndPendingReset : Prop :=
  (∀ s t : State, s.blockMem.wf = true → step s = .next t → t.blockMem.wf = true)
  ∧ (∀ s t : State, EventsSound s → step s = .next t → EventsSound t)
  ∧ (∀ s t : State, PendingResetSound s → step s = .next t → PendingResetSound t)

/-- R75: each of the 512 blocks is at every moment in the Free List or in the chain of exactly one bundle with exactly one holder; so the free count and the blocks of every bundle add up to 512. -/
def Obligations.StepConservesBlocks : Prop :=
  ∀ s t : State, PoolConserved s → step s = .next t →
    PoolConserved t ∧ t.freeList.length + (heldBlocks t).length = 512

/-- Every step keeps the Slot Table's lists in agreement with its slots, at most one slot OPEN for a profile id, no slot OPEN outside RUN, the eviction mark on an evicted slot while a record is held, and a slot to wait for while DRAINING. -/
def Obligations.StepKeepsSlotTable : Prop :=
  ∀ s t : State, SlotTableSound s → step s = .next t → SlotTableSound t

/-- Every step keeps each port sound: the receiver holds what its state allows, the Intake FIFO stays within 512 bytes, the Port Transmit Queue within 8 records, and a disabled port neither receives nor sends. -/
def Obligations.StepKeepsPorts : Prop :=
  ∀ s t : State, PortsSound s → step s = .next t → PortsSound t

/-- Whatever the concentrator writes, every match entry, route profile, template and configuration item stays in its range. Emission Queue depths, the express-run count and the Start History stay within their bounds at every step. -/
def Obligations.StepKeepsTablesAndEmissionBounds : Prop :=
  (∀ s t : State, TablesInRange s → step s = .next t → TablesInRange t)
  ∧ (∀ s t : State, EmissionSound s → TablesInRange s → step s = .next t → EmissionSound t)

/-- R53: every OPEN or CLOSED slot holds at least one record and stays within its snapshot's limits, and every bundle's chain is exactly as long as its content needs. -/
def Obligations.StepKeepsBundlesWithinLimits : Prop :=
  ∀ s t : State, BundlesSound s → TablesInRange s → PortsSound s → step s = .next t → BundlesSound t

/-- Retained sequences stay consecutive and end before the next bundle sequence, at most 8 bundles are retained, retry counts stay at most 7 and never rise from oldest to newest, the pointer names a retained bundle, and the ack timer runs only in UP with a bundle retained. The bundle in transmission is retained, or its chain stands in the released-bundle hold, after every step. -/
def Obligations.StepKeepsRetentionList : Prop :=
  (∀ s t : State, RetentionSound s → TablesInRange s → step s = .next t → RetentionSound t)
  ∧ (∀ s t : State, SendingSound s → RetentionSound s → step s = .next t → SendingSound t)

/-- The link has carrier unless it is OFFLINE, the HELLO timer runs exactly in OFFLINE with carrier, and the Control Queue keeps its eighth place for SYNC_ACK and holds none in OFFLINE. The premise RetentionSound, itself stated as a law in StepKeepsRetentionList, rules out an ack timer that runs in OFFLINE, whose expiry would stall a link without carrier. -/
def Obligations.StepKeepsLinkAndControlQueue : Prop :=
  ∀ s t : State, LinkSound s → RetentionSound s → step s = .next t → LinkSound t

/-- The Reply Cache holds at most 4 entries with distinct ids, one of them IN_PROGRESS exactly while DRAINING, and the drain timer runs exactly while DRAINING. -/
def Obligations.StepKeepsReplyCache : Prop :=
  ∀ s t : State, CacheSound s → step s = .next t → CacheSound t

/-- No step writes to a chain once its bundle has closed. A bundle that is retained before and after a step keeps its descriptor, and its chain the content it had; so does the chain that passes to the released-bundle hold or stays there, the chain of a descriptor that stays queued or becomes retained, and the chain of a CLOSED slot that stays closed or moves to its queue. -/
def Obligations.ClosedContentIsNeverWritten : Prop :=
  ∀ s t : State, PoolConserved s → BundlesSound s → TablesInRange s → PortsSound s → RetentionSound s →
    step s = .next t →
    let content := fun (u : State) (chain : List BlockNo) (n : Nat) => readContent u.blockMem chain n
    let kept := fun d : Descriptor =>
      content t d.chain (d.templateLength + d.bodyBytes) = content s d.chain (d.templateLength + d.bodyBytes)
    (∀ e ∈ s.retention,
      (∀ e' ∈ t.retention, e'.seq = e.seq → e'.desc = e.desc ∧ kept e.desc)
      ∧ (t.releasedHold = some e.desc.chain → kept e.desc))
    ∧ (∀ chain, s.releasedHold = some chain → t.releasedHold = some chain → ∀ n ≤ 128 * chain.length,
      content t chain n = content s chain n)
    ∧ (∀ cls, ∀ d ∈ s.queue cls, d ∈ t.queue cls ∨ (∃ e ∈ t.retention, e.desc = d) → kept d)
    ∧ (∀ (n : SlotNo) b cause qc, s.slots[n] = .closed b cause qc →
      t.slots[n] = .closed b cause qc ∨ descriptorOf b cause qc ∈ t.queue qc →
      content t b.chain b.contentLength = content s b.chain b.contentLength)

/-- What only one command may change: but for a reset, the global configuration changes only by SET_CONFIG in QUIESCED, the ACTIVE bank only by COMMIT_MATCH, the next bundle sequence and the express-run count only at a first transmission start, the expected dispatch sequence only by a DISPATCH; the sequences rise by one; part time, unit number, the levels of the straps and the reset cause stay. The model's choices in it are that a command takes no part time (log 2) and that the levels of the straps move only at a tick (log 11). -/
def Obligations.OnlyTheirCommandsChangeThem : Prop :=
  ∀ (c : Instr) (s t : State), exec c s = .next t → performsReset c s = false →
    (t.config ≠ s.config → s.opState = .quiesced ∧ ∃ id r, c = .setConfig id r)
    ∧ (t.active ≠ s.active → t.active = s.shadow ∧ ∃ id, c = .commitMatch id)
    ∧ (t.nextSeq ≠ s.nextSeq → t.nextSeq = s.nextSeq + 1 ∧ c = .firstTransmissionStart)
    ∧ (t.expressRun ≠ s.expressRun → c = .firstTransmissionStart)
    ∧ (t.expectedDispatch ≠ s.expectedDispatch →
        t.expectedDispatch = s.expectedDispatch + 1 ∧ ∃ es, c = .dispatch s.expectedDispatch es)
    ∧ t.partTime = s.partTime ∧ t.unitNumber = s.unitNumber ∧ t.straps = s.straps ∧ t.resetCause = s.resetCause

/-! ### Field ports -/

/-- R5: in HUNT a byte 0xA6 without the framing indication moves the receiver to HEADER with an empty partial record, header-byte count 0 and the byte-gap timer started; every other byte is ignored and not counted. -/
def Obligations.HuntTakesOnlySof : Prop :=
  ∀ (s : State) (p : PortNo) (v : Byte) (framing : Bool), s.held = false → s.ports[p].rx = .hunt →
    exec (.characterArrival p v framing) s = .next
      (if framing = false ∧ v = 0xA6#8 then
        s.setPort p
          { s.ports[p] with
            rx := .header, byteGapRunning := true, headerCount := 0, payloadCount := 0, remaining := 0
            checkHigh := none, tail := some [] }
      else s)

/-- A header byte whose check fails ends reception with its own error, also when the FIFO is full; one that passes is written when a byte is free. After byte 2 the receiver is in PAYLOAD, or in CHECK for length 0. In PAYLOAD a byte is written when one is free, and the byte that brings the count to the declared length moves the receiver to CHECK. In CHECK the first byte is held; the second makes the record complete and counts a good frame when the check equals the CRC-16 of header and payload, else reception ends with CRC. -/
def Obligations.FrameBytesAreCheckedAndWritten : Prop :=
  (∀ (s : State) (p : PortNo) (v : Byte) (port : Port) (bytes : List Byte), s.held = false → port = s.ports[p] →
    port.rx = .header → port.headerCount ≤ 2 → port.tail = some bytes →
    let after := fun t => exec (.characterArrival p v false) s = .next (s.setPort p t)
    let c := port.counters
    let passes :=
      (port.headerCount = 0 ∧ v ≠ 0 ∧ v ≠ 255) ∨ (port.headerCount = 1 ∧ v.getLsbD 3 = false ∧ v.getLsbD 2 = false)
        ∨ (port.headerCount = 2 ∧ v.toNat ≤ port.maxLen.toNat)
    (port.headerCount = 0 → v = 0 ∨ v = 255 →
      after { port.settle .hunt with counters := { c with badSource := bump c.badSource } })
    ∧ (port.headerCount = 1 → v.getLsbD 3 = true ∨ v.getLsbD 2 = true →
      after { port.settle .hunt with counters := { c with length := bump c.length } })
    ∧ (port.headerCount = 2 → port.maxLen.toNat < v.toNat →
      after { port.startDiscard (v.toNat + 2) with counters := { c with length := bump c.length } })
    ∧ (passes → port.usedBytes < 512 →
      after
        { port with
          tail := some (bytes ++ [v]), headerCount := port.headerCount + 1, byteGapRunning := true
          rx := if port.headerCount < 2 then .header else if v = 0 then .check else .payload }))
  ∧ (∀ (s : State) (p : PortNo) (v : Byte) (port : Port) (bytes : List Byte), s.held = false → port = s.ports[p] →
    port.tail = some bytes →
    let after := fun t => exec (.characterArrival p v false) s = .next (s.setPort p t)
    let c := port.counters
    (port.rx = .payload → port.usedBytes < 512 → 3 ≤ bytes.length →
      after
        { port with
          tail := some (bytes ++ [v]), payloadCount := port.payloadCount + 1, byteGapRunning := true
          rx := if port.payloadCount + 1 = port.declared then .check else .payload })
    ∧ (port.rx = .check → port.checkHigh = none → after { port with checkHigh := some v, byteGapRunning := true })
    ∧ (∀ hi, port.rx = .check → port.checkHigh = some hi → hi ++ v = crc16 bytes →
      after
        { port.settle .hunt with
          fifo := port.fifo ++ [⟨bytes.getD 0 0, bytes.getD 1 0, bytes.drop 3⟩]
          counters := { c with good := bump c.good } })
    ∧ (∀ hi, port.rx = .check → port.checkHigh = some hi → hi ++ v ≠ crc16 bytes →
      after { port.settle .hunt with counters := { c with crc := bump c.crc } }))

/-- A byte that finds the Intake FIFO full ends reception with OVERFLOW: HUNT before the length byte, else DISCARD for the rest of the declared frame and its check. INTAKE_OVERFLOW is raised, and the port's flag cleared, while that flag is armed. In DISCARD a byte without the framing indication, whatever its value, lowers the remaining-byte count by one and restarts the timer; at 0 the receiver is in HUNT. Nothing is counted. In OFF no byte is taken. -/
def Obligations.FullFifoEndsReceptionAndDiscardPassesOver : Prop :=
  (∀ (s : State) (p : PortNo) (v : Byte) (port : Port), s.held = false → port = s.ports[p] → port.usedBytes = 512 →
    let after := fun (t : Port) =>
      exec (.characterArrival p v false) s = .next
        (if s.intakeArmed[p] then
          raise { s.setPort p t with intakeArmed := s.intakeArmed.set p.val false p.isLt } (.intakeOverflow p)
        else s.setPort p t)
    let c : PortCounters := { port.counters with overflow := bump port.counters.overflow }
    (port.rx = .header → port.headerCount = 0 → v ≠ 0 → v ≠ 255 → after { port.settle .hunt with counters := c })
    ∧ (port.rx = .header → port.headerCount = 1 → v.getLsbD 3 = false → v.getLsbD 2 = false →
      after { port.settle .hunt with counters := c })
    ∧ (port.rx = .header → port.headerCount = 2 → v.toNat ≤ port.maxLen.toNat →
      after { port.startDiscard (v.toNat + 2) with counters := c })
    ∧ (port.rx = .payload →
      after { port.startDiscard (port.declared - (port.payloadCount + 1) + 2) with counters := c }))
  ∧ (∀ (s : State) (p : PortNo) (v : Byte) (port : Port), s.held = false → port = s.ports[p] →
    (port.rx = .discard → 1 ≤ port.remaining →
      exec (.characterArrival p v false) s = .next (s.setPort p
        (if port.remaining = 1 then port.settle .hunt
        else { port with remaining := port.remaining - 1, byteGapRunning := true })))
    ∧ (port.rx = .off → exec (.characterArrival p v false) s = .next s))

/-- A byte with the framing indication in HEADER, PAYLOAD or CHECK ends reception with FRAMING; the byte is not written and the receiver moves to HUNT. The expiry of the running byte-gap timer ends it the same way. In DISCARD both only move the receiver to HUNT; in HUNT and OFF neither changes anything, and the expiry of a timer that does not run has no effect (log 1). -/
def Obligations.FramingEndsReception : Prop :=
  ∀ (s : State) (p : PortNo) (v : Byte) (port : Port), s.held = false → port = s.ports[p] →
    let ended : Port :=
      { port.settle .hunt with counters := { port.counters with framing := bump port.counters.framing } }
    let reception := port.rx = .header ∨ port.rx = .payload ∨ port.rx = .check
    (reception → exec (.characterArrival p v true) s = .next (s.setPort p ended))
    ∧ (reception → port.byteGapRunning = true → exec (.byteGapTimerExpiry p) s = .next (s.setPort p ended))
    ∧ (port.rx = .discard → exec (.characterArrival p v true) s = .next (s.setPort p (port.settle .hunt)))
    ∧ (port.rx = .discard → port.byteGapRunning = true →
      exec (.byteGapTimerExpiry p) s = .next (s.setPort p (port.settle .hunt)))
    ∧ (port.rx = .hunt ∨ port.rx = .off →
      exec (.characterArrival p v true) s = .next s ∧ exec (.byteGapTimerExpiry p) s = .next s)
    ∧ (port.byteGapRunning = false → exec (.byteGapTimerExpiry p) s = .next s)

/-- The field frame that the transmitter builds from a record is received whole: character by character, a receiver in HUNT with room in its FIFO takes it as one record of the same node, channel, URGENT, END and payload, counts one good frame and is in HUNT again. -/
def Obligations.FieldFrameIsReceivedWhole : Prop :=
  ∀ (s : State) (p : PortNo) (r : PortTxRecord), s.held = false → PortSound s.ports[p] → s.ports[p].rx = .hunt →
    s.pending = [] → 1 ≤ r.node.toNat → r.node.toNat ≤ 254 → r.payload.length ≤ s.ports[p].maxLen.toNat →
    s.ports[p].usedBytes + 3 + r.payload.length ≤ 512 →
    ∃ rec : FieldRecord, rec.node = r.node ∧ rec.channel = r.channel ∧ rec.urgent = r.urgent
      ∧ rec.endFlag = r.endFlag ∧ rec.payload = r.payload
      ∧ Host.Core.run Sys2Proof.core r.frame.length { s with pending := r.frame.map fun v => .characterArrival p v false }
        = .next (s.setPort p
            { s.ports[p] with
              fifo := s.ports[p].fifo ++ [rec]
              counters := { s.ports[p].counters with good := bump s.ports[p].counters.good } })

/-- At the completion of a field frame records transmitted rises, DELIVERED is raised if the record carried CONFIRM, and the next frame starts if the queue is not empty and the port enabled. With no frame in SENDING a completion does not come about and changes nothing (log 1). -/
def Obligations.FieldFrameCompletes : Prop :=
  ∀ (s : State) (p : PortNo) (port : Port), s.held = false → port = s.ports[p] →
    let c : PortCounters := { port.counters with transmitted := bump port.counters.transmitted }
    let next : Port :=
      match port.txQueue with
      | q :: rest =>
        if port.enabled then { port with sending := some q, txQueue := rest, counters := c }
        else { port with sending := none, counters := c }
      | [] => { port with sending := none, counters := c }
    (∀ r, port.sending = some r → exec (.fieldFrameComplete p) s = .next
      (if r.confirm then raise (s.setPort p next) (.delivered p r.node r.channel r.seq r.index)
      else s.setPort p next))
    ∧ (port.sending = none → exec (.fieldFrameComplete p) s = .next s)

/-! ### Classifier -/

/-- R26: a lookup gives the first entry of the ACTIVE bank, in ascending index, that is valid and whose port, node range and channel match the record; it gives a miss when no entry matches. -/
def Obligations.LookupGivesFirstMatch : Prop :=
  ∀ (s : State) (t : TakenRecord),
    let matching := fun i : Fin 128 =>
      s.active[i].valid = true ∧ (s.active[i].port = none ∨ s.active[i].port = some t.port)
        ∧ s.active[i].nodeLow.toNat ≤ t.record.node.toNat ∧ t.record.node.toNat ≤ s.active[i].nodeHigh.toNat
        ∧ (s.active[i].channel = none ∨ s.active[i].channel = some t.record.channel)
    (∀ i, s.lookup t = some i ↔ matching i ∧ ∀ j, j < i → ¬ matching j)
    ∧ (s.lookup t = none ↔ ∀ i, ¬ matching i)

/-- In RUN with the hold stage empty, the oldest complete record of the first port that has one, beginning with the port the round-robin pointer names, leaves its FIFO; the pointer then names the port after it, records taken rises by one, and no other FIFO changes. A Classifier that is not ready takes nothing. A DROP hit drops the record and counts the hit at its index and a rule drop; a miss under MISS_ACTION DROP drops it and counts a miss drop; a ROUTE hit is counted at its index and offers the record to the Slot Table for one placement attempt under the profile id it names; a miss under MISS_ACTION DEFAULT offers it under DEFAULT_PROFILE and counts no drop. An offered record whose profile is not valid is dropped as ROUTE_INVALID; one that must wait enters the hold stage with that profile id, and hold entries is counted. Every miss, under either MISS_ACTION, raises ROUTE_MISS and clears its flag while that flag is armed. Nothing else changes. -/
def Obligations.ClassifierTakesInTurnAndHandlesRecord : Prop :=
  (∀ s : State, s.held = false →
    (∀ (p : PortNo) (r : FieldRecord) (rest : List FieldRecord) (k : Nat), s.opState = .run → s.hold = none →
      k < 4 → p.val = (s.roundRobin.val + k) % 4 → s.ports[p].fifo = r :: rest →
      (∀ q : PortNo, ∀ j < k, q.val = (s.roundRobin.val + j) % 4 → s.ports[q].fifo = []) →
      ∃ t, exec .classifierTake s = .next t ∧ t.roundRobin.val = (p.val + 1) % 4
        ∧ t.ports = (s.setPort p { s.ports[p] with fifo := rest }).ports
        ∧ t.classify.taken = bump s.classify.taken)
    ∧ (s.opState ≠ .run ∨ s.hold ≠ none ∨ (∀ p : PortNo, s.ports[p].fifo = []) →
      exec .classifierTake s = .next s))
  ∧ (∀ (s : State) (p : PortNo) (r : FieldRecord) (rest : List FieldRecord), s.held = false →
    s.nextTake = some (p, r, rest) →
    let c : ClassifyCounters := { s.classify with taken := bump s.classify.taken }
    let left : State :=
      { s.setPort p { s.ports[p] with fifo := rest } with roundRobin := p + 1, classify := c }
    let reported : State :=
      if s.routeMissArmed then raise { left with routeMissArmed := false } (.routeMiss p r.node r.channel) else left
    let hit := fun i : Fin 128 =>
      { left with matchHits := s.matchHits.set i.val (bump s.matchHits[i]) i.isLt }
    let offered := fun (u : State) (q : Fin 32) =>
      let x := place u q ⟨p, r⟩
      if x.2 = .wait then
        { x.1 with
          hold := some ⟨⟨p, r⟩, q⟩
          classify := { x.1.classify with holdEntries := bump x.1.classify.holdEntries } }
      else x.1
    (∀ i, s.lookup ⟨p, r⟩ = some i → s.active[i].action = .drop →
      exec .classifierTake s = .next { hit i with classify := { c with ruleDrops := bump c.ruleDrops } })
    ∧ (∀ i q, s.lookup ⟨p, r⟩ = some i → s.active[i].action = .route q →
      exec .classifierTake s = .next (offered (hit i) q))
    ∧ (∀ i q, s.lookup ⟨p, r⟩ = some i → s.active[i].action = .route q → s.profiles[q].valid = false →
      exec .classifierTake s = .next { hit i with classify := { c with routeInvalid := bump c.routeInvalid } })
    ∧ (s.lookup ⟨p, r⟩ = none → s.config.missAction = .drop →
      exec .classifierTake s = .next { reported with classify := { c with missDrops := bump c.missDrops } })
    ∧ (s.lookup ⟨p, r⟩ = none → s.config.missAction = .toDefault →
      exec .classifierTake s = .next (offered reported s.config.defaultProfile)))

/-- A law of every command: but for a reset and a READ_COUNTERS, records taken rises by as many as appended, miss drops, rule drops and ROUTE_INVALID drops rise together with the records in the hold stage, while no counter of the group is saturated. -/
def Obligations.EveryTakenRecordIsCountedOnce : Prop :=
  ∀ (c : Instr) (s t : State), exec c s = .next t → performsReset c s = false →
    (∀ id group port first count clear, c ≠ .readCounters id group port first count clear) →
    (∀ x ∈ t.classify.items, x.toNat < 4294967295) →
    let out := fun u : State => u.classify.appended.toNat + u.classify.missDrops.toNat + u.classify.ruleDrops.toNat
      + u.classify.routeInvalid.toNat + if u.hold.isSome then 1 else 0
    s.classify.taken.toNat + out t = t.classify.taken.toNat + out s

/-! ### Placement and slots -/

/-- An append writes the entry at the end of the chain's content and changes none of the content before it; the record count rises by one, the body bytes by the entry size, the chain by the block granted if one was needed. The post-append checks close the slot for URGENT (queue class EXPRESS), else END, else the record limit; else it stays OPEN with its idle deadline restarted. -/
def Obligations.PlacementAppendsToOpenSlot : Prop :=
  ∀ (s : State) (t : TakenRecord) (n : SlotNo) (b : Bundle) (idle age : Option PartTime),
    s.blockMem.wf = true → PoolConserved s → BundlesSound s → SlotTableSound s → t.record.payload.length ≤ 120 →
    s.slots[n] = .opened b idle age → s.profiles[b.snapshot.profile].valid = true →
    let size := entrySize b.snapshot.stamp t.record.payload.length
    b.bodyBytes + size ≤ b.snapshot.byteLimit.toNat → size ≤ 128 - b.lastBytes ∨ s.freeList ≠ [] →
    let stamp := if b.snapshot.stamp then some (stampOf s.partTime b.openTime) else none
    ∃ (s' : State) (b' : Bundle), place s b.snapshot.profile t = (s', .appended)
      ∧ b'.snapshot = b.snapshot ∧ b'.openTime = b.openTime
      ∧ b'.recordCount = b.recordCount + 1 ∧ b'.bodyBytes = b.bodyBytes + size
      ∧ b'.chain = b.chain ++ (if size ≤ 128 - b.lastBytes then [] else s.freeList.take 1)
      ∧ s'.freeList = (if size ≤ 128 - b.lastBytes then s.freeList else s.freeList.drop 1)
      ∧ readContent s'.blockMem b'.chain b'.contentLength
        = readContent s.blockMem b.chain b.contentLength ++ entryBytes t b.recordCount stamp
      ∧ s'.slots[n] = (if t.record.urgent then .closed b' .urgent .express
          else if t.record.endFlag then .closed b' .endFlag b.snapshot.cls
          else if b'.recordCount = b.snapshot.recordLimit.toNat then .closed b' .recordLimit b.snapshot.cls
          else .opened b' (deadlineAfter s.partTime b.snapshot.idleTime) age)
      ∧ (∀ m : SlotNo, m ≠ n → s'.slots[m] = s.slots[m])
      ∧ s'.classify = { s.classify with appended := bump s.classify.appended }

/-- With no OPEN slot for the profile id, the lowest-numbered IDLE slot opens when its one or two blocks are free: they leave the head of the Free List, the content is the template's bytes and the first entry, the snapshot is the profile as it stands, and the deadlines are set where their times are not 0. -/
def Obligations.PlacementOpensLowestIdleSlot : Prop :=
  ∀ (s : State) (p : Fin 32) (t : TakenRecord) (n : SlotNo),
    s.blockMem.wf = true → PoolConserved s → t.record.payload.length ≤ 120 → (∀ i : Fin 8, s.templates[i].length ≤ 32) →
    s.profiles[p].valid = true → s.openSlotOf p = none → s.slots[n] = .idle →
    (∀ m : SlotNo, m < n → s.slots[m] ≠ .idle) →
    let prof := s.profiles[p]
    let template := match prof.template with | none => [] | some i => s.templates[i]
    let size := entrySize prof.stamp t.record.payload.length
    let need := if template.length + size ≤ 128 then 1 else 2
    need ≤ s.freeList.length →
    ∃ (s' : State) (b : Bundle), place s p t = (s', .appended)
      ∧ b.snapshot = ⟨p, prof.destination, prof.cls, prof.recordLimit, prof.byteLimit, prof.idleTime, prof.ageLimit,
          prof.stamp, template.length⟩
      ∧ b.recordCount = 1 ∧ b.bodyBytes = size ∧ b.openTime = s.partTime
      ∧ b.chain = s.freeList.take need ∧ s'.freeList = s.freeList.drop need
      ∧ readContent s'.blockMem b.chain b.contentLength
        = template ++ entryBytes t 0 (if prof.stamp then some 0 else none)
      ∧ s'.slots[n] = (if t.record.urgent then .closed b .urgent .express
          else if t.record.endFlag then .closed b .endFlag prof.cls
          else if 1 = prof.recordLimit.toNat then .closed b .recordLimit prof.cls
          else .opened b (deadlineAfter s.partTime prof.idleTime) (deadlineAfter s.partTime prof.ageLimit))
      ∧ (∀ m : SlotNo, m ≠ n → s'.slots[m] = s.slots[m])
      ∧ s'.classify = { s.classify with appended := bump s.classify.appended }

/-- When the record finds no room: a record that does not fit the OPEN slot of its profile id closes that slot with BYTE_LIMIT, and the same attempt goes on as with no OPEN slot; an opening whose blocks are refused leaves the slots as they are and the record waits; an append whose block is refused closes the slot with POOL_EMPTY and the record waits; with no IDLE slot the record waits and, when there is no eviction mark, the head of the Open Order List closes with EVICTED and is marked. A refusal counts an allocation failure. -/
def Obligations.PlacementClosesWaitsOrEvicts : Prop :=
  ∀ (s : State) (p : Fin 32) (t : TakenRecord), SlotTableSound s → s.profiles[p].valid = true →
    (∀ (n : SlotNo) b idle age, s.slots[n] = .opened b idle age → b.snapshot.profile = p →
      b.snapshot.byteLimit.toNat < b.bodyBytes + entrySize b.snapshot.stamp t.record.payload.length →
      let closed : State :=
        { s with
          slots := s.slots.set n.val (.closed b .byteLimit b.snapshot.cls) n.isLt
          openOrder := s.openOrder.erase n
          closeExpress := if b.snapshot.cls = .express then s.closeExpress ++ [n] else s.closeExpress
          closeBulk := if b.snapshot.cls = .bulk then s.closeBulk ++ [n] else s.closeBulk
          causes := { s.causes with byteLimit := bump s.causes.byteLimit } }
      closed.openSlotOf p = none ∧ place s p t = place closed p t)
    ∧ (s.openSlotOf p = none → (∃ n : SlotNo, s.slots[n] = .idle) → s.freeList.length < openNeed s s.profiles[p] t →
      ∃ s', place s p t = (s', .wait) ∧ s'.slots = s.slots ∧ s'.freeList = s.freeList
        ∧ s'.allocFailures = bump s.allocFailures)
    ∧ (∀ (n : SlotNo) b idle age, s.slots[n] = .opened b idle age → b.snapshot.profile = p → s.freeList = [] →
      b.bodyBytes + entrySize b.snapshot.stamp t.record.payload.length ≤ b.snapshot.byteLimit.toNat →
      128 - b.lastBytes < entrySize b.snapshot.stamp t.record.payload.length →
      ∃ s', place s p t = (s', .wait) ∧ s'.slots = s.slots.set n.val (.closed b .poolEmpty b.snapshot.cls) n.isLt
        ∧ s'.allocFailures = bump s.allocFailures)
    ∧ (s.openSlotOf p = none → (∀ n : SlotNo, s.slots[n] ≠ .idle) →
      (∀ n rest b idle age, s.evictionMark = none → s.openOrder = n :: rest → s.slots[n] = .opened b idle age →
        ∃ s', place s p t = (s', .wait) ∧ s'.slots = s.slots.set n.val (.closed b .evicted b.snapshot.cls) n.isLt
          ∧ s'.evictionMark = some n ∧ s'.openOrder = rest
          ∧ s'.classify = { s.classify with evictions := bump s.classify.evictions })
      ∧ (s.evictionMark ≠ none ∨ s.openOrder = [] → place s p t = (s, .wait)))

/-- R34: an attempt that finds the profile's valid flag no drops the record: ROUTE_INVALID is counted, no slot is opened, closed or changed and no block is taken; a held record leaves the hold stage empty. -/
def Obligations.InvalidProfileDropsRecord : Prop :=
  ∀ (s : State) (p : Fin 32) (t : TakenRecord), s.profiles[p].valid = false →
    let counted : State := { s with classify := { s.classify with routeInvalid := bump s.classify.routeInvalid } }
    place s p t = (counted, .invalid)
    ∧ (s.opState = .run → s.hold = some ⟨t, p⟩ → tryHeld s = { counted with hold := none, evictionMark := none })

/-- An idle or age expiry whose deadline has been reached closes an OPEN slot with its cause: queue class from the snapshot, out of the Open Order List, to the tail of its class's Close Order List, counted under its cause. An expiry that reaches an IDLE or CLOSED slot is void; so is one that reaches a slot without that deadline, or before it (log 1). -/
def Obligations.ExpiryClosesOpenSlot : Prop :=
  ∀ (s : State) (n : SlotNo), s.held = false →
    (∀ (b : Bundle) idle age, s.slots[n] = .opened b idle age →
      let closed := fun (cause : CloseCause) (causes : CauseCounters) =>
        { s with
          slots := s.slots.set n.val (.closed b cause b.snapshot.cls) n.isLt
          openOrder := s.openOrder.erase n
          closeExpress := if b.snapshot.cls = .express then s.closeExpress ++ [n] else s.closeExpress
          closeBulk := if b.snapshot.cls = .bulk then s.closeBulk ++ [n] else s.closeBulk
          causes := causes }
      (∀ d, idle = some d → reached s.partTime d = true → exec (.idleTimeout n) s = .next
        (closed .idleTimeout { s.causes with idleTimeout := bump s.causes.idleTimeout }))
      ∧ (∀ d, age = some d → reached s.partTime d = true → exec (.ageTimeout n) s = .next
        (closed .ageTimeout { s.causes with ageTimeout := bump s.causes.ageTimeout }))
      ∧ ((∀ d, idle = some d → reached s.partTime d = false) → exec (.idleTimeout n) s = .next s)
      ∧ ((∀ d, age = some d → reached s.partTime d = false) → exec (.ageTimeout n) s = .next s))
    ∧ (slotOpen s.slots[n] = false → exec (.idleTimeout n) s = .next s ∧ exec (.ageTimeout n) s = .next s)

/-- The head of a Close Order List moves to the tail of its Emission Queue when a place is free: the descriptor carries the bundle's chain as it stands, the slot is IDLE, and an eviction mark on it is cleared. In QUIESCED, in RUN with no record held, and in DRAINING with another slot to wait for, nothing else changes; in RUN a held record is tried once. When the move leaves every slot IDLE in DRAINING, DRAINING ends: the state is QUIESCED, the drain timer stopped, the IN_PROGRESS entry DONE with an OK reply, and that reply is placed when the Control Queue holds 6 frames or fewer and the link is not OFFLINE. A full queue or an empty list allows no move. A held record is tried in RUN by one placement attempt: it leaves the hold stage, and the eviction mark is cleared, when it is appended or dropped; else it stays held. In QUIESCED and DRAINING, and with the hold stage empty, nothing happens. -/
def Obligations.ClosedBundleMovesToItsQueue : Prop :=
  (∀ (s : State) (cls : BundleClass), s.held = false →
    (∀ n rest b cause qc, s.closeOrder cls = n :: rest → s.slots[n] = .closed b cause qc →
      (s.queue cls).length < 16 →
      let d : Descriptor :=
        ⟨b.snapshot.profile, b.snapshot.destination, b.snapshot.stamp, b.snapshot.templateLength, b.recordCount,
          b.bodyBytes, b.openTime, cause, qc, b.chain, b.lastBytes⟩
      let moved : State :=
        { (s.setCloseOrder cls rest).setQueue cls (s.queue cls ++ [d]) with
          slots := s.slots.set n.val .idle n.isLt
          evictionMark := if s.evictionMark = some n then none else s.evictionMark }
      (s.opState = .quiesced ∨ (s.opState = .run ∧ s.hold = none) ∨ (s.opState = .draining ∧ ∃ m : SlotNo, moved.slots[m] ≠ .idle) →
        exec (.slotMove cls) s = .next moved)
      ∧ (s.opState = .run → exec (.slotMove cls) s = .next (tryHeld moved))
      ∧ (∀ before e after, s.opState = .draining → (∀ m : SlotNo, moved.slots[m] = .idle) → CacheSound s →
        s.replyCache = before ++ e :: after → e.reply = none →
        let reply : MgmtReply := ⟨e.id, e.code, .ok, []⟩
        exec (.slotMove cls) s = .next
          { moved with
            opState := .quiesced, drainTimer := none
            replyCache := before ++ ⟨e.id, e.code, some reply⟩ :: after
            controlQueue := if s.controlQueue.length ≤ 6 ∧ s.link ≠ .offline
              then s.controlQueue ++ [⟨.mgmtReply reply, false⟩] else s.controlQueue }))
    ∧ (s.closeOrder cls = [] ∨ 16 ≤ (s.queue cls).length → exec (.slotMove cls) s = .next s))
  ∧ (∀ s : State,
    (∀ h s' res, s.opState = .run → s.hold = some h → place s h.profile h.taken = (s', res) →
      tryHeld s = if res = .wait then s' else { s' with hold := none, evictionMark := none })
    ∧ (s.opState ≠ .run ∨ s.hold = none → tryHeld s = s))

/-! ### Block Pool -/

/-- A request is granted whole from the head of the Free List when enough blocks are free, and then the minimum free level follows and POOL_LOW is checked; else it is refused whole, counted, and POOL_EXHAUSTED is checked. A return places the chain at the tail and arms both flags when the free count is then above POOL_LOW_MARK. -/
def Obligations.BlocksAreGrantedAndReturned : Prop :=
  ∀ (s : State) (k : Nat) (chain : List BlockNo),
    let free := s.freeList.length - k
    let granted : State := { s with freeList := s.freeList.drop k, minFree := min s.minFree free }
    let refused : State := { s with allocFailures := bump s.allocFailures }
    (k ≤ s.freeList.length → grant s k =
      (if s.poolLowArmed = true ∧ free ≤ s.config.poolLowMark.toNat then
        raise { granted with poolLowArmed := false } (.poolLow free)
      else granted, some (s.freeList.take k)))
    ∧ (s.freeList.length < k → grant s k =
      (if s.poolExhaustedArmed then raise { refused with poolExhaustedArmed := false } .poolExhausted
      else refused, none))
    ∧ (returnChain s chain =
      let returned : State := { s with freeList := s.freeList ++ chain }
      if s.config.poolLowMark.toNat < s.freeList.length + chain.length then
        { returned with poolLowArmed := true, poolExhaustedArmed := true }
      else returned)

/-! ### Events and counters -/

/-- R163: a masked event changes nothing; an enabled one joins the tail of a queue of 15 records or fewer with the raise time and the event number, which rises by one; with 16 records it is dropped, and the lost-event count and events lost rise. -/
def Obligations.RaisedEventIsMaskedQueuedOrLost : Prop :=
  ∀ (s : State) (e : Event),
    (s.config.eventMask.getLsbD (e.code - 1) = false → raise s e = s)
    ∧ (s.config.eventMask.getLsbD (e.code - 1) = true → s.eventQueue.length ≤ 15 → raise s e =
      { s with
        eventQueue := s.eventQueue ++ [⟨e, s.eventNumber, s.partTime⟩], eventNumber := s.eventNumber + 1 })
    ∧ (s.config.eventMask.getLsbD (e.code - 1) = true → 16 ≤ s.eventQueue.length → raise s e =
      { s with
        lostEvents := if s.lostEvents = 65535 then 65535 else s.lostEvents + 1
        mgmt := { s.mgmt with eventsLost := bump s.mgmt.eventsLost } })

/-! ### Emission Queues and Pacer -/

/-- The queue a new bundle is taken from: none when both are empty, the one that is not empty, and with both not empty EXPRESS while the express-run count is below EXPRESS_RUN, else BULK. A first transmission start takes the head of the chosen queue, gives it the next bundle sequence and retry count 0, retains it with its chain, counts it, records the start in the Start History while pacing is on, and brings the express-run count up to date. Only then does the head of the class's Close Order List move into the freed place. The permission counts the entries of the Start History as they stand when the start is taken (log 8), and the move is part of the step (log 7). -/
def Obligations.NewBundleIsChosenAndStarts : Prop :=
  (∀ s : State,
    (s.expressQueue = [] → s.bulkQueue = [] → s.chosenClass = none)
    ∧ (s.expressQueue = [] → s.bulkQueue ≠ [] → s.chosenClass = some .bulk)
    ∧ (s.expressQueue ≠ [] → s.bulkQueue = [] → s.chosenClass = some .express)
    ∧ (s.expressQueue ≠ [] → s.bulkQueue ≠ [] → s.expressRun < s.config.expressRun.toNat →
      s.chosenClass = some .express)
    ∧ (s.expressQueue ≠ [] → s.bulkQueue ≠ [] → s.config.expressRun.toNat ≤ s.expressRun →
      s.chosenClass = some .bulk))
  ∧ (∀ (s : State) (cls : BundleClass) (d : Descriptor) (rest : List Descriptor), s.held = false → s.tx = none →
    s.link = .up → s.controlQueue = [] → s.eventQueue = [] → s.retransmitPtr = none → s.retention.length < 8 →
    s.chosenClass = some cls → s.queue cls = d :: rest →
    s.config.paceCount = 0 ∨ s.startHistory.length < s.config.paceCount.toNat →
    let started : State :=
      { s.setQueue cls rest with
        tx := some (.bundle ⟨d, s.nextSeq, 0, false⟩)
        retention := s.retention ++ [⟨d, s.nextSeq, 0, false⟩]
        nextSeq := s.nextSeq + 1
        expressRun := if cls = .express ∧ s.bulkQueue ≠ [] then s.expressRun + 1 else 0
        startHistory := if s.config.paceCount = 0 then s.startHistory else s.startHistory ++ [s.partTime]
        trunk := { s.trunk with firstSent := bump s.trunk.firstSent } }
    exec .firstTransmissionStart s = .next (moveHead started cls)
    ∧ (s.closeOrder cls = [] → exec .firstTransmissionStart s = .next started))

/-- No bundle starts without the Pacer's permission, and none starts out of the arbiter's turn: with PACE_COUNT entries in the Start History, with a frame in transmission, a link not UP, or a control frame or event waiting, neither a first transmission nor a retransmission changes anything; nor does a new bundle while the pointer is set or 8 bundles are retained. The oldest entry of the Start History leaves by its START_HISTORY_AGEING when part time has reached its time plus PACE_WINDOW; else none leaves. A request taken before that ageing sees the entry still standing, and with PACE_COUNT entries it is refused and changes nothing; the ageing that follows brings the history below PACE_COUNT, a release, after which the same request has permission (R88, R89; log 8). -/
def Obligations.PacerHoldsBundlesBack : Prop :=
  (∀ s : State,
    let refused := s.config.paceCount ≠ 0 ∧ s.config.paceCount.toNat ≤ s.startHistory.length
    (refused ∨ s.tx ≠ none ∨ s.link ≠ .up ∨ s.controlQueue ≠ [] ∨ s.eventQueue ≠ [] →
      exec .firstTransmissionStart s = .next s ∧ exec .retransmissionStart s = .next s)
    ∧ (s.retransmitPtr ≠ none ∨ 8 ≤ s.retention.length → exec .firstTransmissionStart s = .next s))
  ∧ (∀ (s : State) (start : PartTime) (rest : List PartTime), s.held = false → s.startHistory = start :: rest →
    exec .startHistoryAgeing s = .next
      (if reached s.partTime (start + s.config.paceWindow.setWidth 32) then { s with startHistory := rest } else s))
  ∧ (∀ (s : State) (start : PartTime) (rest : List PartTime), s.held = false → s.startHistory = start :: rest →
    rest.length + 1 = s.config.paceCount.toNat → reached s.partTime (start + s.config.paceWindow.setWidth 32) = true →
    exec .firstTransmissionStart s = .next s ∧ exec .retransmissionStart s = .next s
    ∧ ∃ t, exec .startHistoryAgeing s = .next t ∧ t = { s with startHistory := rest } ∧ t.permitted = true)

/-! ### Trunk transmitter -/

/-- In OFFLINE a due HELLO starts when the transmitter is free, with its fields read at the start, and the next falls due 100 ticks after it; the timer's expiry makes it due, and one before its deadline changes nothing (log 1); its completion only frees the transmitter. In UP and STALLED the head of the Control Queue starts when the transmitter is free; with that queue empty the head of the Event Queue starts and takes the lost-event count as it stands, which becomes 0; that the first EVENT frame after a reset does so too, where R169 gives it count 0, is the model's choice (log 30). Their completions only free the transmitter (but for the reply a pending reset waits for). In OFFLINE neither starts; a start whose conditions do not hold changes nothing (log 1). -/
def Obligations.HelloControlAndEventFramesAreSent : Prop :=
  (∀ s : State, s.held = false →
    (s.tx = none → s.link = .offline → s.helloTimer = .due → exec .helloStart s = .next
      { s with
        tx := some (.hello
          ⟨s.resetCause, 1, (match s.retention with | [] => s.nextSeq | e :: _ => e.seq), s.retention.length⟩)
        helloTimer := .waiting (s.partTime + 100) })
    ∧ (s.tx ≠ none ∨ s.link ≠ .offline ∨ s.helloTimer ≠ .due → exec .helloStart s = .next s)
    ∧ (∀ h, s.tx = some (.hello h) → exec .helloComplete s = .next { s with tx := none })
    ∧ (∀ d, s.helloTimer = .waiting d → reached s.partTime d = true →
      exec .helloTimerExpiry s = .next { s with helloTimer := .due })
    ∧ (∀ d, s.helloTimer = .waiting d → reached s.partTime d = false → exec .helloTimerExpiry s = .next s))
  ∧ (∀ s : State, s.held = false →
    (∀ e rest, s.tx = none → s.link ≠ .offline → s.controlQueue = e :: rest →
      exec .controlFrameStart s = .next { s with tx := some (.control e), controlQueue := rest })
    ∧ (∀ r rest, s.tx = none → s.link ≠ .offline → s.controlQueue = [] → s.eventQueue = r :: rest →
      exec .eventFrameStart s = .next
        { s with tx := some (.event r s.lostEvents), eventQueue := rest, lostEvents := 0 })
    ∧ (s.tx ≠ none ∨ s.link = .offline →
      exec .controlFrameStart s = .next s ∧ exec .eventFrameStart s = .next s)
    ∧ (s.controlQueue ≠ [] → exec .eventFrameStart s = .next s)
    ∧ (∀ e, s.tx = some (.control e) → e.awaited = false →
      exec .controlFrameComplete s = .next { s with tx := none })
    ∧ (∀ r lost, s.tx = some (.event r lost) → exec .eventFrameComplete s = .next { s with tx := none }))

/-- The retransmission of the bundle at the pointer raises its retry count, stops the ack timer if it is the oldest, moves the pointer to the next newer bundle or clears it, and is counted and paced; a bundle whose retry count has reached RETRY_LIMIT is not resent. -/
def Obligations.RetransmissionStarts : Prop :=
  ∀ (s : State) (i : Nat) (e : Retained), s.held = false → RetentionSound s → s.tx = none → s.link = .up →
    s.controlQueue = [] → s.eventQueue = [] → s.retention[i]? = some e → s.retransmitPtr = some e.seq →
    (e.retry < s.config.retryLimit.toNat →
      s.config.paceCount = 0 ∨ s.startHistory.length < s.config.paceCount.toNat →
      exec .retransmissionStart s = .next
        { s with
          tx := some (.bundle ⟨e.desc, e.seq, e.retry + 1, true⟩)
          retention := s.retention.set i { e with retry := e.retry + 1 }
          ackTimer := if i = 0 then none else s.ackTimer
          retransmitPtr := s.retention[i + 1]?.map Retained.seq
          startHistory := if s.config.paceCount = 0 then s.startHistory else s.startHistory ++ [s.partTime]
          trunk := { s.trunk with retransmissions := bump s.trunk.retransmissions } })
    ∧ (s.config.retryLimit.toNat ≤ e.retry → exec .retransmissionStart s = .next s)

/-- The link stalls when the retry check finds the bundle at the pointer at RETRY_LIMIT, and when the ack timer expires with the oldest bundle at RETRY_LIMIT: STALLED, pointer clear, ack timer stopped, LINK_STALLED raised with the oldest sequence and its retry count, stalls counted. An expiry below the limit sets the pointer to the oldest and stops the timer. An expiry of a timer that does not run or before its deadline, and a retry check without a pointer or below the limit, change nothing (log 1). -/
def Obligations.LinkStallsAtRetryLimit : Prop :=
  ∀ (s : State) (oldest : Retained) (newer : List Retained), s.held = false → s.retention = oldest :: newer →
    let stalled : State := raise
      { s with
        link := .stalled, retransmitPtr := none, ackTimer := none
        trunk := { s.trunk with stalls := bump s.trunk.stalls } } (.linkStalled oldest.seq oldest.retry)
    (∀ e, s.pointed = some e → s.bundleTurn = true → s.config.retryLimit.toNat ≤ e.retry →
      exec .retryCheckAtLimit s = .next stalled)
    ∧ (∀ e, s.pointed = some e → e.retry < s.config.retryLimit.toNat → exec .retryCheckAtLimit s = .next s)
    ∧ (s.retransmitPtr = none → exec .retryCheckAtLimit s = .next s)
    ∧ (∀ d, s.ackTimer = some d → reached s.partTime d = true → s.config.retryLimit.toNat ≤ oldest.retry →
      exec .ackTimerExpiry s = .next stalled)
    ∧ (∀ d, s.ackTimer = some d → reached s.partTime d = true → oldest.retry < s.config.retryLimit.toNat →
      exec .ackTimerExpiry s = .next { s with retransmitPtr := some oldest.seq, ackTimer := none })
    ∧ (∀ d, s.ackTimer = some d → reached s.partTime d = false → exec .ackTimerExpiry s = .next s)
    ∧ (s.ackTimer = none → exec .ackTimerExpiry s = .next s)

/-- The completion of a bundle still retained gives it its completion mark, and in UP starts the ack timer when it is the oldest. The completion of a bundle acknowledged meanwhile returns the chain in the released-bundle hold and touches no timer; the return is a trigger for a held record. -/
def Obligations.BundleTransmissionCompletes : Prop :=
  ∀ (s : State) (f : BundleTx), s.held = false → s.tx = some (.bundle f) →
    (∀ (i : Nat) (e : Retained), RetentionSound s → s.releasedHold = none → s.retention[i]? = some e → e.seq = f.seq →
      exec .bundleTransmissionComplete s = .next
        { s with
          tx := none
          retention := s.retention.set i { e with completed := true }
          ackTimer := if s.link = .up ∧ i = 0 then some (s.partTime + s.config.ackTimeout.setWidth 32)
            else s.ackTimer })
    ∧ (∀ chain, s.releasedHold = some chain → exec .bundleTransmissionComplete s = .next
        (tryHeld (returnChain { s with tx := none, releasedHold := none } chain)))

/-! ### Trunk receiver and link -/

/-- Carrier loss aborts the transmission, stops the ack timer, clears the pointer, removes every SYNC_ACK from the Control Queue, takes the link to OFFLINE with the HELLO timer stopped, and is counted; the Retention List, the Emission Queues, the Event Queue, the express-run count and the Start History stay. An aborted EVENT is lost, and its own losses and itself join the lost-event count. An aborted BUNDLE whose chain is in the released-bundle hold has that chain returned, a trigger for a held record, before the rest. Carrier gain in OFFLINE makes a HELLO due. A CARRIER_LOSS or CARRIER_GAIN that reports the level as it is has no effect (log 27). -/
def Obligations.CarrierChangesTheLink : Prop :=
  ∀ s : State, s.held = false →
    let lost : State :=
      { s with
        carrier := false, tx := none, ackTimer := none, retransmitPtr := none
        controlQueue := s.controlQueue.filter fun e => !e.isSyncAck
        link := .offline, helloTimer := .stopped
        trunk := { s.trunk with carrierLosses := bump s.trunk.carrierLosses } }
    (s.carrier = true → s.tx = none ∨ (∃ h, s.tx = some (.hello h)) ∨
        (∃ e, s.tx = some (.control e) ∧ e.awaited = false) ∨
        (∃ f, s.tx = some (.bundle f) ∧ s.releasedHold = none) →
      exec .carrierLoss s = .next lost)
    ∧ (∀ r n, s.carrier = true → s.tx = some (.event r n) → exec .carrierLoss s = .next
        { lost with
          lostEvents := if s.lostEvents.toNat + n.toNat + 1 ≤ 65535 then s.lostEvents + n + 1 else 65535
          mgmt := { s.mgmt with eventsLost := bump s.mgmt.eventsLost } })
    ∧ (∀ f chain, s.carrier = true → s.tx = some (.bundle f) → s.releasedHold = some chain →
      let u : State := tryHeld (returnChain { s with tx := none, releasedHold := none } chain)
      exec .carrierLoss s = .next
        { u with
          carrier := false, tx := none, releasedHold := none, ackTimer := none, retransmitPtr := none
          controlQueue := s.controlQueue.filter fun e => !e.isSyncAck
          link := .offline, helloTimer := .stopped
          trunk := { s.trunk with carrierLosses := bump s.trunk.carrierLosses } }
      ∧ u.retention = s.retention ∧ u.expressQueue = s.expressQueue ∧ u.bulkQueue = s.bulkQueue
      ∧ u.expressRun = s.expressRun ∧ u.startHistory = s.startHistory
      ∧ (s.opState ≠ .run ∨ s.hold = none →
        u.freeList = s.freeList ++ chain ∧ u.eventQueue = s.eventQueue ∧ u.slots = s.slots))
    ∧ (s.carrier = false → s.link = .offline →
      exec .carrierGain s = .next { s with carrier := true, helloTimer := .due })
    ∧ (s.carrier = false → exec .carrierLoss s = .next s) ∧ (s.carrier = true → exec .carrierGain s = .next s)

/-- R98: a SYNC with carrier present is taken whole when the Control Queue holds 7 frames or fewer, in any link state; else it is discarded whole and SYNCs dropped is incremented. -/
def Obligations.SyncRestartsTheLink : Prop :=
  ∀ s : State, s.held = false → s.carrier = true →
    (s.controlQueue.length ≤ 7 →
      let oldest := match s.retention with | [] => s.nextSeq | e :: _ => e.seq
      let taken : State :=
        { s with
          retention := s.retention.map fun e => { e with retry := 0 }
          retransmitPtr := (match s.retention with | [] => none | e :: _ => some e.seq)
          ackTimer := none, helloTimer := .stopped, link := .up
          controlQueue := s.controlQueue ++
            [⟨.syncAck ⟨s.resetCause, 1, oldest, s.retention.length⟩ s.expectedDispatch, false⟩]
          trunk := { s.trunk with syncsTaken := bump s.trunk.syncsTaken } }
      exec .sync s = .next
        (if s.link = .stalled then raise taken (.linkResynced s.retention.length) else taken))
    ∧ (8 ≤ s.controlQueue.length → exec .sync s = .next
        { s with trunk := { s.trunk with syncsDropped := bump s.trunk.syncsDropped } })

/-- A BUNDLE_ACK naming a retained sequence removes the bundles from the oldest through it, a BUNDLE_NAK those before it. The chain of a removed bundle returns to the Free List, oldest first, or stands in the released-bundle hold while that bundle is being transmitted. Then the pointer and the ack timer follow, and the frame is counted once; a transmission in progress goes on. -/
def Obligations.AcknowledgementReleasesBundles : Prop :=
  ∀ (s : State) (i : Nat) (e : Retained), Receives s → RetentionSound s → SendingSound s →
    s.retention[i]? = some e →
    let kept := fun k => s.retention.drop k
    let sent := fun (x : Retained) => match s.tx with
      | some (.bundle f) => f.seq == x.seq && s.releasedHold.isNone
      | _ => false
    let returned := fun k => ((s.retention.take k).filter fun x => !sent x).flatMap fun x => x.desc.chain
    let common := fun (k : Nat) (t : State) =>
      t.retention = kept k ∧ t.link = s.link ∧ t.tx = s.tx ∧ t.nextSeq = s.nextSeq
        ∧ t.controlQueue = s.controlQueue ∧ t.expressQueue = s.expressQueue ∧ t.bulkQueue = s.bulkQueue
        ∧ t.releasedHold = (match (s.retention.take k).find? sent with
          | some x => some x.desc.chain
          | none => s.releasedHold)
        ∧ (s.opState ≠ .run ∨ s.hold = none → t.freeList = s.freeList ++ returned k)
    (∃ t, exec (.bundleAck e.seq) s = .next t ∧ common (i + 1) t
      ∧ t.trunk = { s.trunk with acks := bump s.trunk.acks }
      ∧ t.retransmitPtr = (match s.retransmitPtr with
        | none => none
        | some p => if (kept (i + 1)).any (fun x => x.seq == p) then some p else (kept (i + 1)).head?.map Retained.seq)
      ∧ t.ackTimer = (match kept (i + 1) with
        | [] => none
        | x :: _ => if s.link = .up ∧ x.completed = true ∧ sent x = false then
            some (s.partTime + s.config.ackTimeout.setWidth 32) else none))
    ∧ (∃ t, exec (.bundleNak e.seq) s = .next t ∧ common i t
      ∧ t.trunk = { s.trunk with naks := bump s.trunk.naks } ∧ t.retransmitPtr = some e.seq ∧ t.ackTimer = none)

/-- R113: a BUNDLE_ACK or BUNDLE_NAK whose sequence is not retained increments STRAY_ACK or STRAY_NAK and changes nothing else. -/
def Obligations.StrayAcknowledgementsAreCounted : Prop :=
  ∀ (s : State) (n : Word16), Receives s → RetentionSound s → (∀ e ∈ s.retention, e.seq ≠ n) →
    exec (.bundleAck n) s = .next { s with trunk := { s.trunk with strayAck := bump s.trunk.strayAck } }
    ∧ exec (.bundleNak n) s = .next { s with trunk := { s.trunk with strayNak := bump s.trunk.strayNak } }

/-- A received frame is discarded at the first check it fails, counted in that check's counter, with no other effect: length 8 to 2104, CRC-32, kind, total length and length rule, unit byte, and in OFFLINE the kind SYNC. Without carrier no frame of the concentrator has any effect, whether it passes the checks or not (log 6). -/
def Obligations.FailedFrameIsCountedOnce : Prop :=
  (∀ s : State, s.carrier = false →
    (∀ frame, exec (.trunkFrameDiscard frame) s = .next s)
    ∧ (∀ (i : Instr) (unit : BitVec 4) (frame : List Byte), i.frame unit = some frame → exec i s = .next s))
  ∧ (∀ (s : State) (kind unit len1 len0 : Byte) (body check : List Byte), s.held = false → s.carrier = true →
    let covered := kind :: unit :: len1 :: len0 :: body
    let frame := covered ++ check
    let discards := fun (trunk : TrunkCounters) => exec (.trunkFrameDiscard frame) s = .next { s with trunk := trunk }
    let counters := s.trunk
    (∀ short : List Byte, short.length < 8 ∨ 2104 < short.length → exec (.trunkFrameDiscard short) s = .next
      { s with trunk := { counters with badLength := bump counters.badLength } })
    ∧ (check.length = 4 → frame.length ≤ 2104 →
      (check ≠ be32 (crc32 covered) → discards { counters with badCheck := bump counters.badCheck })
      ∧ (check = be32 (crc32 covered) →
        (kind ∉ [0x81#8, 0x82#8, 0x83#8, 0x84#8, 0x85#8] →
          discards { counters with unknownKind := bump counters.unknownKind })
        ∧ (kind ∈ [0x81#8, 0x82#8, 0x83#8, 0x84#8, 0x85#8] →
          ((len1 ++ len0).toNat ≠ frame.length ∨ parseBody kind body = none →
            discards { counters with badLength := bump counters.badLength })
          ∧ (∀ i, (len1 ++ len0).toNat = frame.length → parseBody kind body = some i →
            (unit ≠ s.unitNumber.setWidth 8 → discards { counters with wrongUnit := bump counters.wrongUnit })
            ∧ (unit = s.unitNumber.setWidth 8 → s.link = .offline → kind ≠ 0x81 →
              discards { counters with inOffline := bump counters.inOffline }))))))

/-- Every well-formed command of the concentrator is carried by one frame that passes reception, and the frame read back is that command, with every operand. -/
def Obligations.EveryTrunkCommandIsReadBack : Prop :=
  ∀ (i : Instr) (unit : BitVec 4) (frame : List Byte), i.wellFormed = true → i.frame unit = some frame →
    receiveFrame unit false frame = .ok i

/-! ### Dispatch path -/

/-- With 7 or 8 frames in the Control Queue a DISPATCH is discarded and only counted. Else a sequence behind the expected one is answered with a DISPATCH_ACK of its own and counted as a duplicate; one ahead with a DISPATCH_NAK GAP; an equal one whose entries fail the entry check with a DISPATCH_NAK ENTRY naming the first that fails; and one without room at some port with a DISPATCH_NAK ROOM. A NAK carries the expected sequence, each answer the room report, and nothing is queued. -/
def Obligations.RefusedDispatchIsAnswered : Prop :=
  ∀ (s : State) (seq : Word16) (es : List DispatchEntry), Receives s → dispatchLengthRule es = true →
    let room := [s.ports[0], s.ports[1], s.ports[2], s.ports[3]].map fun port => 8 - port.txQueue.length
    let c := s.dispatchCounters
    let ahead := (seq - s.expectedDispatch).toNat
    let answered := fun (frame : ControlFrame) (counters : DispatchCounters) =>
      exec (.dispatch seq es) s = .next
        { s with controlQueue := s.controlQueue ++ [⟨frame, false⟩], dispatchCounters := counters }
    let fails := fun (e : DispatchEntry) =>
      3 < e.port.toNat ∨ e.node = 0 ∨ e.node = 255 ∨ e.chanFlags.getLsbD 3 = true
    (7 ≤ s.controlQueue.length → exec (.dispatch seq es) s = .next
      { s with dispatchCounters := { c with droppedQueueFull := bump c.droppedQueueFull } })
    ∧ (s.controlQueue.length ≤ 6 →
      (32768 ≤ ahead → answered (.dispatchAck seq room) { c with duplicates := bump c.duplicates })
      ∧ (1 ≤ ahead → ahead ≤ 32767 →
        answered (.dispatchNak s.expectedDispatch .gap 0 room) { c with gapRefusals := bump c.gapRefusals })
      ∧ (∀ i e, ahead = 0 → es[i]? = some e → fails e → (∀ j < i, ∀ e', es[j]? = some e' → ¬ fails e') →
        answered (.dispatchNak s.expectedDispatch .entry i room) { c with entryRefusals := bump c.entryRefusals })
      ∧ (ahead = 0 → (∀ e ∈ es, ¬ fails e) →
        (∃ p : PortNo, 8 - s.ports[p].txQueue.length < es.countP fun e =>
          e.port.toNat = p.val && s.ports[p].enabled && decide (e.payload.length ≤ s.ports[p].maxLen.toNat)) →
        answered (.dispatchNak s.expectedDispatch .room 0 room) { c with roomRefusals := bump c.roomRefusals }))

/-- Admission: in frame order each entry joins its port's transmitter or, for a disabled port or a payload above the port's maximum, is dropped and counted, with UNDELIVERED if it carries CONFIRM; the expected sequence rises by one, the frame is counted, and a DISPATCH_ACK with the room report read afterwards is placed. -/
def Obligations.AdmittedDispatchIsQueuedInOrder : Prop :=
  ∀ (s : State) (es : List DispatchEntry), Receives s → PortsSound s → s.controlQueue.length ≤ 6 →
    dispatchLengthRule es = true →
    (∀ e ∈ es, e.port.toNat ≤ 3 ∧ e.node ≠ 0 ∧ e.node ≠ 255 ∧ e.chanFlags.getLsbD 3 = false) →
    let seq := s.expectedDispatch
    let toPort := fun (p : PortNo) (e : DispatchEntry) =>
      e.port.toNat = p.val && s.ports[p].enabled && decide (e.payload.length ≤ s.ports[p].maxLen.toNat)
    let off := fun (e : DispatchEntry) => !s.ports[(Fin.ofNat 4 e.port.toNat : PortNo)].enabled
    let long := fun (e : DispatchEntry) =>
      s.ports[(Fin.ofNat 4 e.port.toNat : PortNo)].enabled
        && decide (s.ports[(Fin.ofNat 4 e.port.toNat : PortNo)].maxLen.toNat < e.payload.length)
    let record := fun (x : DispatchEntry × Nat) => (⟨x.1.node, x.1.chanFlags.extractLsb' 4 4, x.1.chanFlags.getLsbD 0,
      x.1.chanFlags.getLsbD 1, x.1.chanFlags.getLsbD 2, x.1.payload, seq, x.2⟩ : PortTxRecord)
    let undelivered := (es.zipIdx.filter fun x => (off x.1 || long x.1) && x.1.chanFlags.getLsbD 2).map fun x =>
      Event.undelivered (Fin.ofNat 4 x.1.port.toNat) x.1.node (x.1.chanFlags.extractLsb' 4 4) seq x.2
        (if off x.1 then .portOff else .length)
    (∀ p : PortNo, es.countP (toPort p) ≤ 8 - s.ports[p].txQueue.length) →
    ∃ t, exec (.dispatch seq es) s = .next t
      ∧ (∀ p : PortNo, t.ports[p].sending.toList ++ t.ports[p].txQueue
          = s.ports[p].sending.toList ++ s.ports[p].txQueue ++ (es.zipIdx.filter fun x => toPort p x.1).map record
        ∧ (t.ports[p].sending = none → t.ports[p].txQueue = [])
        ∧ t.ports[p] = { s.ports[p] with sending := t.ports[p].sending, txQueue := t.ports[p].txQueue })
      ∧ t.expectedDispatch = seq + 1
      ∧ t.dispatchCounters =
        { s.dispatchCounters with
          admitted := bump s.dispatchCounters.admitted
          portOffDiscards := bumpBy s.dispatchCounters.portOffDiscards (es.countP off)
          lengthDiscards := bumpBy s.dispatchCounters.lengthDiscards (es.countP long) }
      ∧ t.eventQueue = (undelivered.foldl raise s).eventQueue ∧ t.lostEvents = (undelivered.foldl raise s).lostEvents
      ∧ t.controlQueue = s.controlQueue ++
        [⟨.dispatchAck seq
          ([t.ports[0], t.ports[1], t.ports[2], t.ports[3]].map fun port => 8 - port.txQueue.length), false⟩]

/-! ### Management protocol -/

/-- With 7 or 8 frames in the Control Queue a request is discarded and only MGMT_DROPPED rises; a request whose id is cached is not executed: a DONE entry's stored reply is placed again, an IN_PROGRESS entry absorbs the request, and cache replays rises. -/
def Obligations.CachedRequestIsNotExecuted : Prop :=
  ∀ (s : State) (id : Word16) (code : Byte) (run : State → Execution), Receives s →
    (7 ≤ s.controlQueue.length → command s id code run = .next
      { s with mgmt := { s.mgmt with dropped := bump s.mgmt.dropped } })
    ∧ (∀ e, s.controlQueue.length ≤ 6 → s.replyCache.find? (fun x => x.id == id) = some e →
      command s id code run = .next
        { s with
          mgmt := { s.mgmt with replays := bump s.mgmt.replays }
          controlQueue := s.controlQueue ++ e.reply.toList.map fun r => ⟨.mgmtReply r, false⟩ })

/-- The reading commands IDENTIFY, READ_STATUS, READ_SLOTS and GET_CONFIG are answered OK with the items as they stand, and change nothing but the Reply Cache, the MGMT counters and the Control Queue. READ_MATCH, READ_PROFILE, READ_TEMPLATE and READ_PORT are answered OK with the entry, profile, template or port they name as it stands, and BAD_PARAM when they name none; nothing else changes. -/
def Obligations.ReadingCommandsReportTheState : Prop :=
  (∀ (s : State) (id : Word16), Executes s id →
    let slots := s.slots.toList
    exec (.identify id) s = .next (replied (accepted s) id 0x01 .ok
      ([0x01, 0x01, 0xA0, 0x01, s.unitNumber.setWidth 8, s.resetCause.byte, 0, 4, 0, 16, 2, 0, 0, 128, 0, 128, 0, 32,
        0, 8, 0, 32, 0, 16, 0, 8, 0, 8, 0, 4, 0, 16, 0, 8]))
    ∧ exec (.readStatus id) s = .next (replied (accepted s) id 0x02 .ok
      ([s.opState.byte, (match s.pendingReset with | none => 0 | some ⟨.traffic, _⟩ => 1 | some ⟨.full, _⟩ => 2)]
        ++ be32 s.partTime ++ [s.link.byte] ++ be16 (wordOf s.freeList.length)
        ++ [byteOf (slots.countP fun x => x == .idle), byteOf (slots.countP slotOpen),
          byteOf (slots.countP fun x => slotClosedFor .express x || slotClosedFor .bulk x),
          if s.hold.isSome then 1 else 0, byteOf s.expressQueue.length, byteOf s.bulkQueue.length,
          byteOf s.retention.length, byteOf s.controlQueue.length, byteOf s.eventQueue.length,
          byteOf s.ports[0].txQueue.length, byteOf s.ports[1].txQueue.length, byteOf s.ports[2].txQueue.length,
          byteOf s.ports[3].txQueue.length]))
    ∧ exec (.readSlots id) s = .next (replied (accepted s) id 0x03 .ok (slots.flatMap fun
      | .idle => List.replicate 10 0
      | .opened b _ _ => [1, byteOf b.snapshot.profile.val, byteOf b.recordCount] ++ be16 (wordOf b.bodyBytes)
          ++ be32 (s.partTime - b.openTime) ++ [0]
      | .closed b cause _ => [2, byteOf b.snapshot.profile.val, byteOf b.recordCount] ++ be16 (wordOf b.bodyBytes)
          ++ be32 (s.partTime - b.openTime) ++ [byteOf cause.code]))
    ∧ exec (.getConfig id) s = .next (replied (accepted s) id 0x04 .ok
      ([s.config.paceCount] ++ be16 s.config.paceWindow ++ be16 s.config.ackTimeout
        ++ [s.config.retryLimit, if s.config.missAction = .drop then 0 else 1, byteOf s.config.defaultProfile.val]
        ++ be16 s.config.poolLowMark ++ [s.config.expressRun] ++ be16 (s.config.eventMask.setWidth 16))))
  ∧ (∀ (s : State) (id : Word16) (x bank : Byte), Executes s id →
    let answers := fun (c : Instr) (code : Byte) (status : Status) (result : List Byte) =>
      exec c s = .next (replied (accepted s) id code status result)
    (∀ i : Fin 128, x.toNat = i.val →
      (bank = 0 → answers (.readMatch id x bank) 0x11 .ok s.active[i].bytes)
      ∧ (bank = 1 → answers (.readMatch id x bank) 0x11 .ok s.shadow[i].bytes))
    ∧ (127 < x.toNat ∨ 1 < bank.toNat → answers (.readMatch id x bank) 0x11 .badParam [])
    ∧ (∀ p : Fin 32, x.toNat = p.val → answers (.readProfile id x) 0x14 .ok s.profiles[p].bytes)
    ∧ (31 < x.toNat → answers (.readProfile id x) 0x14 .badParam [])
    ∧ (∀ i : Fin 8, x.toNat = i.val →
      answers (.readTemplate id x) 0x16 .ok (byteOf s.templates[i].length :: s.templates[i]))
    ∧ (7 < x.toNat → answers (.readTemplate id x) 0x16 .badParam [])
    ∧ (∀ p : PortNo, x.toNat = p.val → answers (.readPort id x) 0x31 .ok
      ([if s.ports[p].enabled then 1 else 0, s.ports[p].bitRate.byte, s.ports[p].maxLen, s.ports[p].rx.byte]
        ++ be16 (wordOf s.ports[p].usedBytes)
        ++ [byteOf s.ports[p].fifo.length, if s.ports[p].sending.isSome then 1 else 0,
          byteOf s.ports[p].txQueue.length, 0]))
    ∧ (3 < x.toNat → answers (.readPort id x) 0x31 .badParam []))

/-- WRITE_MATCH replaces one SHADOW entry, COMMIT_MATCH copies SHADOW into ACTIVE and arms ROUTE_MISS, WRITE_TEMPLATE replaces one template; each changes only that and answers OK. Values out of the ranges of the spec, which stand here as matchRange, profileRange and configRange, answer BAD_PARAM and change nothing. SET_CONFIG in QUIESCED replaces all nine items, and empties the Start History when PACE_COUNT or PACE_WINDOW changes; an item out of range answers BAD_PARAM in every state, and RUN or DRAINING answers BAD_STATE; then nothing changes. What is written is read back: the 7 bytes of a match record in range (with profile id 0 for a DROP), the 13 bytes of a profile record in range and the 13 bytes of a configuration record in range are the bytes that READ_MATCH, READ_PROFILE and GET_CONFIG report of the entry written. -/
def Obligations.TableWritesAreTakenAndReadBack : Prop :=
  let nodeRange := fun v : Byte => 1 ≤ v.toNat ∧ v.toNat ≤ 254
  let matchRange := fun r : MatchRecord =>
    r.valid.toNat ≤ 1 ∧ (r.port.toNat ≤ 3 ∨ r.port = 0xFF) ∧ nodeRange r.nodeLow ∧ nodeRange r.nodeHigh
      ∧ r.nodeLow.toNat ≤ r.nodeHigh.toNat ∧ (r.channel.toNat ≤ 15 ∨ r.channel = 0xFF)
      ∧ (r.action = 1 ∨ (r.action = 0 ∧ r.profile.toNat ≤ 31))
  let profileRange := fun r : ProfileRecord =>
    r.valid.toNat ≤ 1 ∧ r.cls.toNat ≤ 1 ∧ 1 ≤ r.recordLimit.toNat ∧ r.recordLimit.toNat ≤ 64
      ∧ 128 ≤ r.byteLimit.toNat ∧ r.byteLimit.toNat ≤ 2048 ∧ (r.template.toNat ≤ 7 ∨ r.template = 0xFF)
      ∧ r.stamp.toNat ≤ 1
  let configRange := fun r : ConfigRecord =>
    r.paceCount.toNat ≤ 15 ∧ 1 ≤ r.paceWindow.toNat ∧ r.paceWindow.toNat ≤ 1000 ∧ 5 ≤ r.ackTimeout.toNat
      ∧ r.ackTimeout.toNat ≤ 2000 ∧ 1 ≤ r.retryLimit.toNat ∧ r.retryLimit.toNat ≤ 7 ∧ r.missAction.toNat ≤ 1
      ∧ r.defaultProfile.toNat ≤ 31 ∧ r.poolLowMark.toNat ≤ 511 ∧ 1 ≤ r.expressRun.toNat
      ∧ r.expressRun.toNat ≤ 15 ∧ r.eventMask.toNat ≤ 511
  (∀ (s : State) (id : Word16), Executes s id →
    (∀ (x : Byte) (r : MatchRecord) (i : Fin 128), x.toNat = i.val → matchRange r →
      exec (.writeMatch id x r) s = .next (replied
        { accepted s with shadow := s.shadow.set i.val (matchEntryOf r) i.isLt } id 0x10 .ok []))
    ∧ (∀ (x : Byte) (r : MatchRecord), 127 < x.toNat ∨ ¬ matchRange r →
      exec (.writeMatch id x r) s = .next (replied (accepted s) id 0x10 .badParam []))
    ∧ exec (.commitMatch id) s = .next (replied
        { accepted s with active := s.shadow, routeMissArmed := true } id 0x12 .ok [])
    ∧ (∀ (x length : Byte) (bytes : List Byte) (i : Fin 8), x.toNat = i.val → bytes.length = length.toNat →
      length.toNat ≤ 32 → exec (.writeTemplate id x length bytes) s = .next (replied
        { accepted s with templates := s.templates.set i.val bytes i.isLt } id 0x15 .ok []))
    ∧ (∀ (x length : Byte) (bytes : List Byte), bytes.length = length.toNat → 7 < x.toNat ∨ 32 < length.toNat →
      exec (.writeTemplate id x length bytes) s = .next (replied (accepted s) id 0x15 .badParam [])))
  ∧ (∀ (s : State) (id : Word16) (r : ConfigRecord), Executes s id →
    (configRange r → s.opState = .quiesced → exec (.setConfig id r) s = .next (replied
      { accepted s with
        config := configOf r
        startHistory := if r.paceCount = s.config.paceCount ∧ r.paceWindow = s.config.paceWindow
          then s.startHistory else [] } id 0x05 .ok []))
    ∧ (configRange r → s.opState ≠ .quiesced →
      exec (.setConfig id r) s = .next (replied (accepted s) id 0x05 .badState []))
    ∧ (¬ configRange r → exec (.setConfig id r) s = .next (replied (accepted s) id 0x05 .badParam [])))
  ∧ ((∀ r : MatchRecord, matchRange r →
    (matchEntryOf r).bytes = ({ r with profile := if r.action = 1 then 0 else r.profile } : MatchRecord).bytes)
  ∧ (∀ r : ProfileRecord, profileRange r → (profileOf r).bytes = r.bytes)
  ∧ (∀ r : ConfigRecord, configRange r → (configOf r).bytes = r.bytes))

/-- WRITE_PROFILE replaces the profile whole and then closes the OPEN slot of that profile id with PROFILE_CHANGED, its queue class from its snapshot; a held record of that profile id is then tried, which in RUN is one placement attempt. With no such slot and no such record only the profile changes. Values out of range answer BAD_PARAM and touch nothing. FLUSH of one profile id closes its OPEN slot with FLUSH, and changes no slot when it has none; an id of 32 to 254 answers BAD_PARAM. -/
def Obligations.ProfileWriteAndFlushCloseTheSlot : Prop :=
  (∀ (s : State) (id : Word16) (x : Byte) (r : ProfileRecord), Executes s id →
    let inRange := r.valid.toNat ≤ 1 ∧ r.cls.toNat ≤ 1 ∧ 1 ≤ r.recordLimit.toNat ∧ r.recordLimit.toNat ≤ 64
      ∧ 128 ≤ r.byteLimit.toNat ∧ r.byteLimit.toNat ≤ 2048 ∧ (r.template.toNat ≤ 7 ∨ r.template = 0xFF)
      ∧ r.stamp.toNat ≤ 1
    (∀ p : Fin 32, x.toNat = p.val → inRange → SlotTableSound s →
      let written : State := { accepted s with profiles := s.profiles.set p.val (profileOf r) p.isLt }
      let leaves := fun t : State =>
        (s.opState ≠ .run ∨ (∀ h, s.hold = some h → h.profile ≠ p) →
          exec (.writeProfile id x r) s = .next (replied t id 0x13 .ok []))
        ∧ (∀ taken, s.hold = some ⟨taken, p⟩ →
          exec (.writeProfile id x r) s = .next (replied (tryHeld t) id 0x13 .ok []))
      ((∀ n : SlotNo, openProfile s.slots[n] ≠ some p) → leaves written)
      ∧ (∀ (n : SlotNo) b idle age, s.slots[n] = .opened b idle age → b.snapshot.profile = p →
        leaves
          { written with
            slots := s.slots.set n.val (.closed b .profileChanged b.snapshot.cls) n.isLt
            openOrder := s.openOrder.erase n
            closeExpress := if b.snapshot.cls = .express then s.closeExpress ++ [n] else s.closeExpress
            closeBulk := if b.snapshot.cls = .bulk then s.closeBulk ++ [n] else s.closeBulk
            causes := { s.causes with profileChanged := bump s.causes.profileChanged } }))
    ∧ (31 < x.toNat ∨ ¬ inRange →
      exec (.writeProfile id x r) s = .next (replied (accepted s) id 0x13 .badParam [])))
  ∧ (∀ (s : State) (id : Word16) (x : Byte), Executes s id → SlotTableSound s →
    (∀ p : Fin 32, x.toNat = p.val →
      ((∀ n : SlotNo, openProfile s.slots[n] ≠ some p) →
        exec (.flush id x) s = .next (replied (accepted s) id 0x20 .ok []))
      ∧ (∀ (n : SlotNo) b idle age, s.slots[n] = .opened b idle age → b.snapshot.profile = p →
        exec (.flush id x) s = .next (replied
          { accepted s with
            slots := s.slots.set n.val (.closed b .flush b.snapshot.cls) n.isLt
            openOrder := s.openOrder.erase n
            closeExpress := if b.snapshot.cls = .express then s.closeExpress ++ [n] else s.closeExpress
            closeBulk := if b.snapshot.cls = .bulk then s.closeBulk ++ [n] else s.closeBulk
            causes := { s.causes with flush := bump s.causes.flush } } id 0x20 .ok [])))
    ∧ (31 < x.toNat → x.toNat < 255 → exec (.flush id x) s = .next (replied (accepted s) id 0x20 .badParam [])))

/-- FLUSH ALL, and a QUIESCE in RUN with a slot not IDLE, close every OPEN slot in the order of the Open Order List, oldest first, each bundle to the tail of its snapshot class's Close Order List. FLUSH is answered OK; QUIESCE moves RUN to DRAINING with the drain timer started and an IN_PROGRESS entry, and is not answered yet. -/
def Obligations.FlushAllAndQuiesceCloseOpenSlots : Prop :=
  ∀ (s : State) (id timeout : Word16), Executes s id → SlotTableSound s →
    let bundleOf := fun n : SlotNo => match s.slots[n] with | .opened b _ _ => some b | _ => none
    let toList := fun cls => s.openOrder.filter fun n => (bundleOf n).any fun b => b.snapshot.cls == cls
    let closes := fun (cause : CloseCause) (t : State) =>
      t.openOrder = [] ∧ t.closeExpress = s.closeExpress ++ toList .express
        ∧ t.closeBulk = s.closeBulk ++ toList .bulk
        ∧ (∀ n : SlotNo, t.slots[n] = match s.slots[n] with
          | .opened b _ _ => .closed b cause b.snapshot.cls
          | slot => slot)
        ∧ t.hold = s.hold ∧ t.evictionMark = s.evictionMark ∧ t.freeList = s.freeList
    (∃ t, exec (.flush id 0xFF) s = .next (replied t id 0x20 .ok []) ∧ closes .flush t ∧ t.opState = s.opState
      ∧ t.causes = { s.causes with flush := bumpBy s.causes.flush s.openOrder.length })
    ∧ (s.opState = .run → 1 ≤ timeout.toNat → timeout.toNat ≤ 60000 → (∃ n : SlotNo, s.slots[n] ≠ .idle) →
      ∃ t, exec (.quiesce id timeout) s = .next t ∧ closes .quiesce t ∧ t.opState = .draining
        ∧ t.causes = { s.causes with quiesce := bumpBy s.causes.quiesce s.openOrder.length }
        ∧ t.drainTimer = some (s.partTime + timeout.setWidth 32)
        ∧ t.replyCache = evictOldestDone s.replyCache ++ [⟨id, 0x21, none⟩]
        ∧ t.controlQueue = s.controlQueue)

/-- RESUME moves QUIESCED to RUN and offers a held record for one attempt, changes nothing in RUN, and is BAD_STATE in DRAINING. QUIESCE in RUN with every slot IDLE makes the state QUIESCED at once; in QUIESCED it changes nothing; in DRAINING it is BUSY; a timeout of 0 or above 60000 is BAD_PARAM in every state. -/
def Obligations.ResumeAndQuiesceAnswerByState : Prop :=
  ∀ (s : State) (id timeout : Word16), Executes s id →
    let inRange := 1 ≤ timeout.toNat ∧ timeout.toNat ≤ 60000
    let answers := fun (c : Instr) (code : Byte) (t : State) (status : Status) =>
      exec c s = .next (replied t id code status [])
    (s.opState = .quiesced → answers (.resume id) 0x22 (tryHeld { accepted s with opState := .run }) .ok)
    ∧ (s.opState = .quiesced → s.hold = none → answers (.resume id) 0x22 { accepted s with opState := .run } .ok)
    ∧ (s.opState = .run → answers (.resume id) 0x22 (accepted s) .ok)
    ∧ (s.opState = .draining → answers (.resume id) 0x22 (accepted s) .badState)
    ∧ (inRange → s.opState = .run → (∀ n : SlotNo, s.slots[n] = .idle) →
      answers (.quiesce id timeout) 0x21 { accepted s with opState := .quiesced } .ok)
    ∧ (inRange → s.opState = .quiesced → answers (.quiesce id timeout) 0x21 (accepted s) .ok)
    ∧ (inRange → s.opState = .draining → answers (.quiesce id timeout) 0x21 (accepted s) .busy)
    ∧ (¬ inRange → answers (.quiesce id timeout) 0x21 (accepted s) .badParam)

/-- The drain timer's expiry ends DRAINING by discarding every CLOSED slot: chains return in the order of the EXPRESS list, then the BULK list, the discards are counted, and DRAIN_DISCARD is raised with the two numbers the reply carries. The timer is then stopped, the state QUIESCED, and the IN_PROGRESS entry DONE with a PARTIAL reply, which is placed when the Control Queue holds 6 frames or fewer and the link is not OFFLINE. An expiry before the timer's deadline changes nothing (log 1). -/
def Obligations.DrainTimeoutDiscardsClosedSlots : Prop :=
  ∀ (s : State) (d : PartTime) (before after : List CacheEntry) (e : CacheEntry), s.held = false →
    SlotTableSound s → CacheSound s → s.opState = .draining → s.drainTimer = some d →
    s.replyCache = before ++ e :: after → e.reply = none →
    let closed := s.closeExpress ++ s.closeBulk
    let bundleOf := fun n : SlotNo => match s.slots[n] with | .closed b _ _ => some b | _ => none
    let records := (closed.filterMap bundleOf).map Bundle.recordCount
    let reply : MgmtReply :=
      ⟨e.id, e.code, .partialEnd, byteOf closed.length :: be16 (wordOf records.sum)⟩
    (reached s.partTime d = false → exec .drainTimerExpiry s = .next s)
    ∧ (reached s.partTime d = true → ∃ t, exec .drainTimerExpiry s = .next t
      ∧ t.opState = .quiesced ∧ t.drainTimer = none
      ∧ (∀ n : SlotNo, t.slots[n] = .idle) ∧ t.closeExpress = [] ∧ t.closeBulk = [] ∧ t.evictionMark = none
      ∧ t.hold = s.hold ∧ t.expressQueue = s.expressQueue ∧ t.bulkQueue = s.bulkQueue ∧ t.retention = s.retention
      ∧ t.freeList = s.freeList ++ (closed.filterMap bundleOf).flatMap Bundle.chain
      ∧ t.causes =
        { s.causes with
          bundlesDiscarded := bumpBy s.causes.bundlesDiscarded closed.length
          recordsDiscarded := bumpBy s.causes.recordsDiscarded records.sum }
      ∧ t.eventQueue = (raise s (.drainDiscard closed.length records.sum)).eventQueue
      ∧ t.replyCache = before ++ ⟨e.id, e.code, some reply⟩ :: after
      ∧ t.controlQueue = (if s.controlQueue.length ≤ 6 ∧ s.link ≠ .offline
          then s.controlQueue ++ [⟨.mgmtReply reply, false⟩] else s.controlQueue))

/-- PORT_CONTROL: a disable aborts reception, the frame in SENDING and the queued records, with UNDELIVERED for each that carries CONFIRM in that order, and then takes the settings; an enable of a disabled port takes the settings and moves OFF to HUNT; on an enabled port equal settings change nothing and others answer BAD_STATE. A port above 3, a rate code above 6, a length above 120 or an enable byte above 1 answers BAD_PARAM. -/
def Obligations.PortControlTakesDisableSettingsEnable : Prop :=
  ∀ (s : State) (id : Word16) (x : Byte) (p : PortNo) (code maxLen : Byte) (rate : BitRate) (port : Port),
    Executes s id → x.toNat = p.val → port = s.ports[p] → PortSound port → BitRate.ofByte code = some rate →
    maxLen.toNat ≤ 120 →
    let answers := fun (enable : Byte) (t : State) (status : Status) =>
      exec (.portControl id x enable code maxLen) s = .next (replied t id 0x30 status [])
    let confirmed := (port.sending.toList ++ port.txQueue).filter PortTxRecord.confirm
    let c := port.counters
    let reception := port.rx = .header ∨ port.rx = .payload ∨ port.rx = .check
    let disabled : Port :=
      { port.settle .off with
        enabled := false, bitRate := rate, maxLen := maxLen, sending := none, txQueue := []
        counters :=
          { c with
            aborted := if reception then bump c.aborted else c.aborted
            txAborts := if port.sending.isSome then bump c.txAborts else c.txAborts
            txDiscards := bumpBy c.txDiscards port.txQueue.length } }
    answers 0 ((confirmed.foldl (fun s r => raise s (.undelivered p r.node r.channel r.seq r.index .portOff))
      (accepted s)).setPort p disabled) .ok
    ∧ (port.enabled = false → answers 1 ((accepted s).setPort p
        { port with enabled := true, rx := .hunt, bitRate := rate, maxLen := maxLen }) .ok)
    ∧ (port.enabled = true → port.bitRate = rate → port.maxLen = maxLen → answers 1 (accepted s) .ok)
    ∧ (port.enabled = true → port.bitRate ≠ rate ∨ port.maxLen ≠ maxLen → answers 1 (accepted s) .badState)
    ∧ (∀ y enable badCode long : Byte, 3 < y.toNat ∨ 1 < enable.toNat ∨ 6 < badCode.toNat ∨ 120 < long.toNat →
      exec (.portControl id y enable badCode long) s = .next (replied (accepted s) id 0x30 .badParam []))

/-- An increment raises a statistics counter by one, and leaves it unchanged at 4,294,967,295; several items at one event are as many increments. READ_COUNTERS answers the values of the run of items named, in index order, as they stand; with the clear option the whole group is then cleared, for POOL the minimum free level becomes the free count, and the INTAKE_OVERFLOW flag of a PORT group or the ROUTE_MISS flag of the CLASSIFY group is armed. The groups are coded 0 PORT (with a port of 0 to 3), 1 MATCH, 2 CLASSIFY, 3 CAUSE, 4 POOL, 5 TRUNK, 6 DISPATCH and 7 MGMT, and hold 10, 128, 7, 13, 3, 15, 8 and 4 items. An unknown group or port, a count of 0, or a run past the group's end answers BAD_PARAM. -/
def Obligations.CountersSaturateAndAreReadThenCleared : Prop :=
  (∀ (c : Counter) (n : Nat),
    (c.toNat < 4294967295 → (bump c).toNat = c.toNat + 1) ∧ (c.toNat = 4294967295 → bump c = c)
    ∧ (bumpBy c n).toNat = min (c.toNat + n) 4294967295)
  ∧ (∀ (s : State) (id : Word16) (group port first count clear : Byte) (g : CounterGroup), Executes s id →
    let answers := fun (t : State) (status : Status) (result : List Byte) =>
      exec (.readCounters id group port first count clear) s = .next (replied t id 0x32 status result)
    let named := match g with
      | .port p => group = 0 ∧ port.toNat = p.val
      | .matches => group = 1
      | .classify => group = 2
      | .cause => group = 3
      | .pool => group = 4
      | .trunk => group = 5
      | .dispatch => group = 6
      | .mgmt => group = 7
    let size := match g with
      | .port _ => 10
      | .matches => 128
      | .classify => 7
      | .cause => 13
      | .pool => 3
      | .trunk => 15
      | .dispatch => 8
      | .mgmt => 4
    let items := groupItems (accepted s) g
    let run := ((items.drop first.toNat).take count.toNat).flatMap be32
    let inRange := 1 ≤ count.toNat ∧ first.toNat + count.toNat ≤ size
    items.length = size
    ∧ (7 < group.toNat ∨ (group = 0 ∧ 3 < port.toNat) → answers (accepted s) .badParam [])
    ∧ (named →
      (¬ inRange ∨ 1 < clear.toNat → answers (accepted s) .badParam [])
      ∧ (inRange → clear = 0 → answers (accepted s) .ok run)
      ∧ (inRange → clear = 1 → ∃ t, answers t .ok run
        ∧ (g ≠ .pool → ∀ x ∈ groupItems t g, x = 0)
        ∧ (g = .pool → groupItems t g =
          [BitVec.ofNat 32 s.freeList.length, BitVec.ofNat 32 s.freeList.length, 0])
        ∧ (∀ g', g' ≠ g → groupItems t g' = groupItems (accepted s) g')
        ∧ (∀ p : PortNo, t.intakeArmed[p] = (s.intakeArmed[p] || decide (g = .port p)))
        ∧ t.routeMissArmed = (s.routeMissArmed || decide (g = .classify))
        ∧ t.freeList = s.freeList ∧ t.poolLowArmed = s.poolLowArmed ∧ t.poolExhaustedArmed = s.poolExhaustedArmed)))

/-- RESET_PART is answered OK and leaves a reset pending, at its level and 100 ticks from now, that waits for this reply; while a reset is pending it is BUSY, and any other level is BAD_PARAM. A command code that is none of the part's is answered UNKNOWN_COMMAND and changes nothing else. -/
def Obligations.ResetPartLeavesAResetPending : Prop :=
  ∀ (s : State) (id : Word16) (level : Byte), Executes s id →
    (∀ l, (level = 1 ∧ l = .traffic) ∨ (level = 2 ∧ l = .full) → s.pendingReset = none →
      let reply : MgmtReply := ⟨id, 0x3F, .ok, []⟩
      exec (.resetPart id level) s = .next
        { accepted s with
          pendingReset := some ⟨l, s.partTime + 100⟩
          replyCache := evictOldestDone s.replyCache ++ [⟨id, 0x3F, some reply⟩]
          controlQueue := s.controlQueue ++ [⟨.mgmtReply reply, true⟩] })
    ∧ (level = 1 ∨ level = 2 → s.pendingReset ≠ none →
      exec (.resetPart id level) s = .next (replied (accepted s) id 0x3F .busy []))
    ∧ (level ≠ 1 → level ≠ 2 → exec (.resetPart id level) s = .next (replied (accepted s) id 0x3F .badParam []))
    ∧ (∀ (code : Byte) (params : List Byte), unknownCode code = true → params.length ≤ 2093 →
      exec (.unknownCommand id code params) s = .next (replied (accepted s) id code .unknownCommand []))

/-! ### The frames the part sends -/

/-- The bytes of every frame the part sends: kind, unit number, total length, body and CRC-32, the body by kind; for an EVENT the parameters of its kind; for a BUNDLE the 16-byte header and then the content of its chain, a frame of 24 bytes beside its template bytes and body bytes, and at most 2104. A field frame holds SOF, the three header bytes, the payload and its CRC-16, and an entry its four header bytes, the stamp where there is one, and the payload. -/
def Obligations.SentFramesHaveTheirLayout : Prop :=
  (∀ (s : State) (x : Transmission), s.tx = some x →
    let sends := fun (kind : Byte) (body : List Byte) =>
      let covered := [kind, s.unitNumber.setWidth 8] ++ be16 (wordOf (body.length + 8)) ++ body
      s.txBytes = some (covered ++ be32 (crc32 covered))
    let hello := fun h : HelloFields =>
      let cause : Byte := match h.cause with | .power => 1 | .pin => 2 | .commandFull => 3 | .commandTraffic => 4
      [cause, h.revision] ++ be16 h.oldest ++ [byteOf h.retained]
    let event : Event → Byte × List Byte := fun e => match e with
      | .poolLow free => (1, be16 (wordOf free))
      | .poolExhausted => (2, [])
      | .intakeOverflow p => (3, [byteOf p.val])
      | .routeMiss p node channel => (4, [byteOf p.val, node, channel.setWidth 8])
      | .linkStalled oldest retry => (5, be16 oldest ++ [byteOf retry])
      | .linkResynced retained => (6, [byteOf retained])
      | .delivered p node channel seq index =>
        (7, [byteOf p.val, node, channel.setWidth 8] ++ be16 seq ++ [byteOf index])
      | .undelivered p node channel seq index reason =>
        (8, [byteOf p.val, node, channel.setWidth 8] ++ be16 seq
          ++ [byteOf index, match reason with | .portOff => 1 | .length => 2])
      | .drainDiscard bundles records => (9, [byteOf bundles] ++ be16 (wordOf records))
    match x with
    | .hello h => sends 0x02 (hello h)
    | .control ⟨.syncAck h expected, _⟩ => sends 0x03 (hello h ++ be16 expected)
    | .control ⟨.mgmtReply r, _⟩ =>
      let status : Byte := match r.status with
        | .ok => 0
        | .busy => 1
        | .badState => 2
        | .badParam => 3
        | .unknownCommand => 4
        | .partialEnd => 5
      sends 0x04 (be16 r.id ++ [r.code, status] ++ r.result)
    | .event r lost =>
      sends 0x05 (be16 r.number ++ [(event r.event).1] ++ be32 r.raiseTime ++ be16 lost ++ (event r.event).2)
    | .control ⟨.dispatchAck seq room, _⟩ => sends 0x06 (be16 seq ++ room.map byteOf)
    | .control ⟨.dispatchNak expected reason index room, _⟩ =>
      let code : Byte := match reason with | .gap => 1 | .room => 2 | .entry => 3
      sends 0x07 (be16 expected ++ [code, byteOf index] ++ room.map byteOf)
    | .bundle f =>
      let d := f.desc
      let cause : BitVec 4 := match d.cause with
        | .recordLimit => 1
        | .byteLimit => 2
        | .endFlag => 3
        | .urgent => 4
        | .idleTimeout => 5
        | .ageTimeout => 6
        | .flush => 7
        | .evicted => 8
        | .quiesce => 9
        | .poolEmpty => 10
        | .profileChanged => 11
      sends 0x01
        (be16 f.seq ++ be16 d.destination
          ++ [byteOf d.profile.val,
            BitVec.ofBool (d.queueClass == .express) ++ 0#3 ++ cause,
            byteOf d.recordCount, byteOf f.retry, byteOf d.templateLength,
            0#6 ++ BitVec.ofBool d.stamp ++ BitVec.ofBool f.retransmit]
          ++ be16 (wordOf d.bodyBytes) ++ be32 d.openTime
          ++ readContent s.blockMem d.chain (d.templateLength + d.bodyBytes))
      ∧ s.txBytes.map List.length = some (24 + d.templateLength + d.bodyBytes)
      ∧ (DescriptorSound d → 24 + d.templateLength + d.bodyBytes ≤ 2104))
  ∧ (∀ r : PortTxRecord,
    let covered := [r.node, r.channel ++ 0#2 ++ BitVec.ofBool r.endFlag ++ BitVec.ofBool r.urgent,
      byteOf r.payload.length] ++ r.payload
    r.frame = [0xA6] ++ covered ++ be16 (crc16 covered))
  ∧ (∀ (t : TakenRecord) (index : Nat) (stamp : Option Word16),
    entryBytes t index stamp =
      [BitVec.ofNat 2 t.port.val ++ BitVec.ofBool t.record.urgent ++ BitVec.ofBool t.record.endFlag
          ++ t.record.channel, t.record.node, byteOf t.record.payload.length, byteOf index]
        ++ (match stamp with | none => [] | some w => be16 w) ++ t.record.payload)
end

