-- ==== Sys2Proof/Laws/Memory.lean ====
section
/-! SUPPORT. Block storage: every write keeps the canonical form, a byte written is read back, every other byte is as before, and the same for a run of content bytes. -/

namespace Sys2Proof.Machine

/-- Every address of a memory lies above `a`. -/
def Memory.above (a : Nat) (m : Memory) : Prop := ∀ c ∈ m, a < c.1

theorem Memory.wf_cons (c : Host.Cell) (m : Memory) :
    Memory.wf (c :: m) = true ↔ Memory.above c.1 m ∧ c.2 ≠ Config.unwrittenByte ∧ Memory.wf m = true := by
  induction m generalizing c with
  | nil => obtain ⟨k, v⟩ := c; simp [Memory.wf, Memory.above]
  | cons d m ih =>
    obtain ⟨k, v⟩ := c
    obtain ⟨k', v'⟩ := d
    have hd := ih (k', v')
    simp only [Memory.wf, Bool.and_eq_true, decide_eq_true_eq] at hd ⊢
    constructor
    · rintro ⟨⟨hk, hv⟩, hw⟩
      refine ⟨?_, hv, hw⟩
      intro x hx
      rcases List.mem_cons.mp hx with rfl | hx
      · exact hk
      · exact Nat.lt_trans hk ((hd.mp hw).1 x hx)
    · rintro ⟨ha, hv, hw⟩
      exact ⟨⟨ha _ (List.mem_cons_self), hv⟩, hw⟩

theorem Memory.above_write {a : Nat} {m : Memory} (h : Memory.above a m) {k : Nat} (hk : a < k) (b : Byte) :
    Memory.above a (m.write k b) := by
  induction m with
  | nil =>
    intro c hc
    by_cases hb : b = Config.unwrittenByte
    · simp [Memory.write, hb] at hc
    · simp [Memory.write, hb] at hc; subst hc; exact hk
  | cons d m ih =>
    obtain ⟨j, v⟩ := d
    have hm : Memory.above a m := fun c hc => h c (List.mem_cons_of_mem _ hc)
    have hj : a < j := h (j, v) List.mem_cons_self
    intro c hc
    unfold Memory.write at hc
    split at hc
    · split at hc
      · exact h c hc
      · rcases List.mem_cons.mp hc with rfl | hc
        · exact hk
        · exact h c hc
    · split at hc
      · split at hc
        · exact hm c hc
        · rcases List.mem_cons.mp hc with rfl | hc
          · exact hk
          · exact hm c hc
      · rcases List.mem_cons.mp hc with rfl | hc
        · exact hj
        · exact ih hm c hc

/-- A write keeps the canonical form. -/
theorem Memory.wf_write {m : Memory} (h : m.wf = true) (a : Nat) (b : Byte) : (m.write a b).wf = true := by
  induction m with
  | nil =>
    by_cases hb : b = Config.unwrittenByte <;> simp [Memory.write, Memory.wf, hb]
  | cons d m ih =>
    obtain ⟨k, v⟩ := d
    obtain ⟨hab, hv, hm⟩ := (Memory.wf_cons (k, v) m).mp h
    unfold Memory.write
    split
    · rename_i hlt
      split
      · exact h
      · rename_i hb
        refine (Memory.wf_cons _ _).mpr ⟨?_, hb, h⟩
        intro c hc
        rcases List.mem_cons.mp hc with rfl | hc
        · exact hlt
        · exact Nat.lt_trans hlt (hab c hc)
    · rename_i hlt
      split
      · rename_i heq
        split
        · exact hm
        · rename_i hb
          exact (Memory.wf_cons _ _).mpr ⟨fun c hc => heq ▸ hab c hc, hb, hm⟩
      · rename_i hne
        exact (Memory.wf_cons _ _).mpr ⟨Memory.above_write hab (by simp only; omega) b, hv, ih hm⟩

theorem Memory.read_above {a : Nat} {m : Memory} (h : Memory.above a m) : m.read a = Config.unwrittenByte := by
  induction m with
  | nil => rfl
  | cons d m ih =>
    obtain ⟨k, v⟩ := d
    have hk : a < k := h (k, v) List.mem_cons_self
    simp only [Memory.read]
    rw [if_neg (by omega)]
    exact ih fun c hc => h c (List.mem_cons_of_mem _ hc)

/-- A byte written to a canonical memory is read back. -/
theorem Memory.read_write {m : Memory} (h : m.wf = true) (a : Nat) (b : Byte) : (m.write a b).read a = b := by
  induction m with
  | nil => by_cases hb : b = Config.unwrittenByte <;> simp [Memory.write, Memory.read, hb]
  | cons d m ih =>
    obtain ⟨k, v⟩ := d
    obtain ⟨hab, _, hm⟩ := (Memory.wf_cons (k, v) m).mp h
    unfold Memory.write
    split
    · rename_i hlt
      split
      · rename_i hb
        rw [hb]
        apply Memory.read_above
        intro c hc
        rcases List.mem_cons.mp hc with rfl | hc
        · exact hlt
        · exact Nat.lt_trans hlt (hab c hc)
      · simp [Memory.read]
    · split
      · rename_i heq
        split
        · rename_i hb
          rw [hb]
          exact Memory.read_above fun c hc => heq ▸ hab c hc
        · simp [Memory.read]
      · rename_i hne
        simp only [Memory.read]
        rw [if_neg hne]
        exact ih hm

/-- A write changes no other byte, in whatever form the memory is. -/
theorem Memory.read_write_ne (m : Memory) {a a' : Nat} (h : a' ≠ a) (b : Byte) : (m.write a b).read a' = m.read a' := by
  induction m with
  | nil => by_cases hb : b = Config.unwrittenByte <;> simp [Memory.write, Memory.read, hb, h]
  | cons d m ih =>
    obtain ⟨k, v⟩ := d
    unfold Memory.write
    split
    · split
      · rfl
      · simp [Memory.read, h]
    · split
      · rename_i heq
        subst heq
        split <;> simp [Memory.read, h]
      · simp only [Memory.read, ih]

/-- Writing a run of content bytes keeps the canonical form. -/
theorem wf_writeContent {m : Memory} (h : m.wf = true) (chain : List BlockNo) (start : Nat) (bs : List Byte) :
    (writeContent m chain start bs).wf = true := by
  induction bs generalizing m start with
  | nil => exact h
  | cons b bs ih => exact ih (Memory.wf_write h _ _) (start + 1)

/-- Writing a run of content bytes changes no byte whose address is none of the run's. -/
theorem read_writeContent_ne (m : Memory) (chain : List BlockNo) (start : Nat) (bs : List Byte) (a : Nat)
    (h : ∀ k, start ≤ k → k < start + bs.length → a ≠ contentAddr chain k) :
    (writeContent m chain start bs).read a = m.read a := by
  induction bs generalizing m start with
  | nil => rfl
  | cons b bs ih =>
    simp only [writeContent]
    rw [ih]
    · exact Memory.read_write_ne m (h start (Nat.le_refl _) (by simp)) b
    · intro k h1 h2
      exact h k (by omega) (by simp only [List.length_cons]; omega)

/-- Content addresses of a chain without a repeated block are pairwise distinct. -/
theorem contentAddr_inj {chain : List BlockNo} (h : chain.Nodup) {j k : Nat} (hj : j < 128 * chain.length)
    (hk : k < 128 * chain.length) (he : contentAddr chain j = contentAddr chain k) : j = k := by
  unfold contentAddr at he
  simp only [Config.blockSize] at he
  have hj' : j / 128 < chain.length := by omega
  have hk' : k / 128 < chain.length := by omega
  rw [List.getD_eq_getElem _ _ hj', List.getD_eq_getElem _ _ hk'] at he
  have h1 : (chain[j / 128] : Nat) = chain[k / 128] := by omega
  have h2 : j % 128 = k % 128 := by omega
  have h3 : j / 128 = k / 128 := (List.Nodup.getElem_inj_iff h).mp (Fin.ext h1)
  omega

/-- A content byte lies in the block at its position in the chain. -/
theorem contentAddr_block {chain : List BlockNo} {k : Nat} (hk : k < 128 * chain.length) :
    ∃ b ∈ chain, contentAddr chain k / 128 = b.val := by
  have hk' : k / 128 < chain.length := by omega
  refine ⟨chain[k / 128], List.getElem_mem hk', ?_⟩
  unfold contentAddr
  simp only [Config.blockSize]
  rw [List.getD_eq_getElem _ _ hk']
  omega

/-- A byte of a run written to a canonical memory along a chain without a repeated block is read back. -/
theorem read_writeContent {m : Memory} (hm : m.wf = true) {chain : List BlockNo} (hc : chain.Nodup) (start : Nat)
    (bs : List Byte) (hfit : start + bs.length ≤ 128 * chain.length) (i : Nat) (hi : i < bs.length) :
    (writeContent m chain start bs).read (contentAddr chain (start + i)) = bs[i] := by
  induction bs generalizing m start i with
  | nil => simp at hi
  | cons b bs ih =>
    simp only [List.length_cons] at hfit hi
    simp only [writeContent]
    cases i with
    | zero =>
      rw [read_writeContent_ne]
      · simpa using Memory.read_write hm _ b
      · intro k h1 h2 he
        have := contentAddr_inj hc (by omega) (by omega) he
        omega
    | succ i =>
      have := ih (Memory.wf_write hm (contentAddr chain start) b) (start + 1) (by omega) i (by omega)
      simpa [Nat.add_assoc, Nat.add_comm 1 i] using this

/-- After a run is written at the end of a chain's content, the content is the old content and the run. -/
theorem readContent_writeContent {m : Memory} (hm : m.wf = true) {chain : List BlockNo} (hc : chain.Nodup)
    (start : Nat) (bs : List Byte) (hfit : start + bs.length ≤ 128 * chain.length) :
    readContent (writeContent m chain start bs) chain (start + bs.length) = readContent m chain start ++ bs := by
  apply List.ext_getElem
  · simp [readContent]
  · intro i h1 h2
    simp only [readContent, List.length_map, List.length_range] at h1
    by_cases hi : i < start
    · rw [List.getElem_append_left (by simpa [readContent] using hi)]
      simp only [readContent, List.getElem_map, List.getElem_range]
      apply read_writeContent_ne
      intro k hk1 hk2 he
      have := contentAddr_inj hc (by omega) (by omega) he
      omega
    · rw [List.getElem_append_right (by simpa [readContent] using hi)]
      simp only [readContent, List.getElem_map, List.getElem_range, List.length_map, List.length_range]
      have := read_writeContent hm hc start bs hfit (i - start) (by omega)
      rwa [show start + (i - start) = i by omega] at this

/-- The content of a chain depends only on the bytes of its own blocks. -/
theorem readContent_congr {m m' : Memory} {chain : List BlockNo} {n : Nat}
    (h : ∀ k < n, m'.read (contentAddr chain k) = m.read (contentAddr chain k)) :
    readContent m' chain n = readContent m chain n := by
  unfold readContent
  apply List.map_congr_left
  intro k hk
  exact h k (List.mem_range.mp hk)

/-- A chain that grew by blocks keeps the addresses of the content it had. -/
theorem contentAddr_append {chain blocks : List BlockNo} {k : Nat} (hk : k < 128 * chain.length) :
    contentAddr (chain ++ blocks) k = contentAddr chain k := by
  unfold contentAddr
  simp only [Config.blockSize]
  rw [List.getD_append _ _ _ _ (by omega)]

end Sys2Proof.Machine
end

