-- ==== Sys2Proof/Laws/PerInstr.lean ====
section
/-! SUPPORT. Laws of the command terms, one lemma for each constructor. Family Carried: the body of a frame that carries a well-formed command fits a frame of at most 2104 bytes, and its kind is one the part takes. -/

namespace Sys2Proof.Laws.Carried

open Machine

/-- The frame of a well-formed command has a kind the part takes and a body of 2096 bytes or fewer (R101, R176). -/
def Statement (i : Instr) : Prop :=
  ∀ kb, i.kindAndBody = some kb → i.wellFormed = true → takenKinds.contains kb.1 = true ∧ kb.2.length ≤ 2096

/-- A command no frame carries. -/
theorem of_none {i : Instr} (h : i.kindAndBody = none) : Statement i := fun kb hkb => by
  rw [h] at hkb
  exact absurd hkb nofun

/-- A command with a known kind and body. -/
theorem of_some {i : Instr} {kind : Byte} {body : List Byte} (h : i.kindAndBody = some (kind, body))
    (hk : takenKinds.contains kind = true) (hb : i.wellFormed = true → body.length ≤ 2096) : Statement i :=
  fun kb hkb hw => by
    rw [h] at hkb
    cases hkb
    exact ⟨hk, hb hw⟩

/-- A short management request. -/
theorem of_request {i : Instr} {id : Word16} {code : Byte} {params : List Byte}
    (h : i.kindAndBody = some (kindMgmtRequest, requestBody id code params)) (hp : params.length ≤ 2093) :
    Statement i :=
  of_some h (by decide) fun _ => by simp [requestBody, be16]; omega

/-- Entries within the length rule take at most 124 bytes each. -/
theorem entries_length (es : List DispatchEntry) (h : es.all DispatchEntry.wellFormed = true) :
    (es.flatMap DispatchEntry.bytes).length ≤ 124 * es.length := by
  induction es with
  | nil => simp
  | cons e es ih =>
    simp only [List.all_cons, Bool.and_eq_true] at h
    have he : e.payload.length ≤ 120 := by simpa [DispatchEntry.wellFormed] using h.1
    have := ih h.2
    simp only [List.flatMap_cons, List.length_append, List.length_cons, DispatchEntry.bytes]
    omega

theorem characterArrival : ∀ x0 x1 x2, Statement (.characterArrival x0 x1 x2) := fun _ _ _ => of_none rfl

theorem byteGapTimerExpiry : ∀ x0, Statement (.byteGapTimerExpiry x0) := fun _ => of_none rfl

theorem classifierTake : Statement .classifierTake := of_none rfl

theorem idleTimeout : ∀ x0, Statement (.idleTimeout x0) := fun _ => of_none rfl

theorem ageTimeout : ∀ x0, Statement (.ageTimeout x0) := fun _ => of_none rfl

theorem slotMove : ∀ x0, Statement (.slotMove x0) := fun _ => of_none rfl

theorem startHistoryAgeing : Statement .startHistoryAgeing := of_none rfl

theorem helloStart : Statement .helloStart := of_none rfl

theorem helloComplete : Statement .helloComplete := of_none rfl

theorem controlFrameStart : Statement .controlFrameStart := of_none rfl

theorem controlFrameComplete : Statement .controlFrameComplete := of_none rfl

theorem eventFrameStart : Statement .eventFrameStart := of_none rfl

theorem eventFrameComplete : Statement .eventFrameComplete := of_none rfl

theorem firstTransmissionStart : Statement .firstTransmissionStart := of_none rfl

theorem retransmissionStart : Statement .retransmissionStart := of_none rfl

theorem retryCheckAtLimit : Statement .retryCheckAtLimit := of_none rfl

theorem bundleTransmissionComplete : Statement .bundleTransmissionComplete := of_none rfl

theorem ackTimerExpiry : Statement .ackTimerExpiry := of_none rfl

theorem helloTimerExpiry : Statement .helloTimerExpiry := of_none rfl

theorem carrierLoss : Statement .carrierLoss := of_none rfl

theorem carrierGain : Statement .carrierGain := of_none rfl

theorem trunkFrameDiscard : ∀ x0, Statement (.trunkFrameDiscard x0) := fun _ => of_none rfl

theorem sync : Statement .sync := of_some rfl (by decide) fun _ => by decide

theorem bundleAck : ∀ x0, Statement (.bundleAck x0) := fun _ => of_some rfl (by decide) fun _ => by simp [be16]

theorem bundleNak : ∀ x0, Statement (.bundleNak x0) := fun _ => of_some rfl (by decide) fun _ => by simp [be16]

theorem dispatch : ∀ x0 x1, Statement (.dispatch x0 x1) := fun _ es => of_some rfl (by decide) fun hw => by
  simp only [Instr.wellFormed, dispatchLengthRule, Bool.and_eq_true, decide_eq_true_eq] at hw
  have := entries_length es hw.2
  simp only [List.length_append, List.length_cons, be16, List.length_nil]
  omega

theorem fieldFrameComplete : ∀ x0, Statement (.fieldFrameComplete x0) := fun _ => of_none rfl

theorem identify : ∀ x0, Statement (.identify x0) := fun _ => of_request rfl (by simp)

theorem readStatus : ∀ x0, Statement (.readStatus x0) := fun _ => of_request rfl (by simp)

theorem readSlots : ∀ x0, Statement (.readSlots x0) := fun _ => of_request rfl (by simp)

theorem getConfig : ∀ x0, Statement (.getConfig x0) := fun _ => of_request rfl (by simp)

theorem setConfig : ∀ x0 x1, Statement (.setConfig x0 x1) :=
  fun _ _ => of_request rfl (by simp [ConfigRecord.bytes, be16])

theorem writeMatch : ∀ x0 x1 x2, Statement (.writeMatch x0 x1 x2) :=
  fun _ _ _ => of_request rfl (by simp [MatchRecord.bytes])

theorem readMatch : ∀ x0 x1 x2, Statement (.readMatch x0 x1 x2) := fun _ _ _ => of_request rfl (by simp)

theorem commitMatch : ∀ x0, Statement (.commitMatch x0) := fun _ => of_request rfl (by simp)

theorem writeProfile : ∀ x0 x1 x2, Statement (.writeProfile x0 x1 x2) :=
  fun _ _ _ => of_request rfl (by simp [ProfileRecord.bytes, be16])

theorem readProfile : ∀ x0 x1, Statement (.readProfile x0 x1) := fun _ _ => of_request rfl (by simp)

theorem writeTemplate : ∀ x0 x1 x2 x3, Statement (.writeTemplate x0 x1 x2 x3) := fun _ _ len bytes =>
  of_some rfl (by decide) fun hw => by
    have hl : bytes.length = len.toNat := by simpa [Instr.wellFormed, templateLengthRule] using hw
    have := len.isLt
    simp only [requestBody, be16, List.length_append, List.length_cons, List.length_nil]
    omega

theorem readTemplate : ∀ x0 x1, Statement (.readTemplate x0 x1) := fun _ _ => of_request rfl (by simp)

theorem flush : ∀ x0 x1, Statement (.flush x0 x1) := fun _ _ => of_request rfl (by simp)

theorem quiesce : ∀ x0 x1, Statement (.quiesce x0 x1) := fun _ _ => of_request rfl (by simp [be16])

theorem resume : ∀ x0, Statement (.resume x0) := fun _ => of_request rfl (by simp)

theorem portControl : ∀ x0 x1 x2 x3 x4, Statement (.portControl x0 x1 x2 x3 x4) :=
  fun _ _ _ _ _ => of_request rfl (by simp)

theorem readPort : ∀ x0 x1, Statement (.readPort x0 x1) := fun _ _ => of_request rfl (by simp)

theorem readCounters : ∀ x0 x1 x2 x3 x4 x5, Statement (.readCounters x0 x1 x2 x3 x4 x5) :=
  fun _ _ _ _ _ _ => of_request rfl (by simp)

theorem resetPart : ∀ x0 x1, Statement (.resetPart x0 x1) := fun _ _ => of_request rfl (by simp)

theorem unknownCommand : ∀ x0 x1 x2, Statement (.unknownCommand x0 x1 x2) := fun _ _ _ =>
  of_some rfl (by decide) fun hw => by
    simp only [Instr.wellFormed, Bool.and_eq_true, paramsFit, decide_eq_true_eq] at hw
    simp only [requestBody, be16, List.length_append, List.length_cons, List.length_nil]
    omega

theorem drainTimerExpiry : Statement .drainTimerExpiry := of_none rfl

theorem resetDeadline : Statement .resetDeadline := of_none rfl

theorem powerOn : Statement .powerOn := of_none rfl

theorem resetNAsserted : Statement .resetNAsserted := of_none rfl

theorem pinResetComplete : ∀ x0, Statement (.pinResetComplete x0) := fun _ => of_none rfl

end Sys2Proof.Laws.Carried
end

