-- ==== Sys2Proof/Laws/State.lean ====
section
/-! SUPPORT. What each named update of State leaves in each field, by rfl: a proof over an update never unfolds it. -/

namespace Sys2Proof.Machine

/-! setPort -/

@[simp] theorem State.setPort_partTime (s : State) (p : PortNo) (x : Port) : (s.setPort p x).partTime = s.partTime := rfl
@[simp] theorem State.setPort_carrier (s : State) (p : PortNo) (x : Port) : (s.setPort p x).carrier = s.carrier := rfl
@[simp] theorem State.setPort_straps (s : State) (p : PortNo) (x : Port) : (s.setPort p x).straps = s.straps := rfl
@[simp] theorem State.setPort_strapChanges (s : State) (p : PortNo) (x : Port) : (s.setPort p x).strapChanges = s.strapChanges := rfl
@[simp] theorem State.setPort_supplyGood (s : State) (p : PortNo) (x : Port) : (s.setPort p x).supplyGood = s.supplyGood := rfl
@[simp] theorem State.setPort_resetNLow (s : State) (p : PortNo) (x : Port) : (s.setPort p x).resetNLow = s.resetNLow := rfl
@[simp] theorem State.setPort_unitNumber (s : State) (p : PortNo) (x : Port) : (s.setPort p x).unitNumber = s.unitNumber := rfl
@[simp] theorem State.setPort_roundRobin (s : State) (p : PortNo) (x : Port) : (s.setPort p x).roundRobin = s.roundRobin := rfl
@[simp] theorem State.setPort_hold (s : State) (p : PortNo) (x : Port) : (s.setPort p x).hold = s.hold := rfl
@[simp] theorem State.setPort_active (s : State) (p : PortNo) (x : Port) : (s.setPort p x).active = s.active := rfl
@[simp] theorem State.setPort_shadow (s : State) (p : PortNo) (x : Port) : (s.setPort p x).shadow = s.shadow := rfl
@[simp] theorem State.setPort_profiles (s : State) (p : PortNo) (x : Port) : (s.setPort p x).profiles = s.profiles := rfl
@[simp] theorem State.setPort_templates (s : State) (p : PortNo) (x : Port) : (s.setPort p x).templates = s.templates := rfl
@[simp] theorem State.setPort_slots (s : State) (p : PortNo) (x : Port) : (s.setPort p x).slots = s.slots := rfl
@[simp] theorem State.setPort_openOrder (s : State) (p : PortNo) (x : Port) : (s.setPort p x).openOrder = s.openOrder := rfl
@[simp] theorem State.setPort_closeExpress (s : State) (p : PortNo) (x : Port) : (s.setPort p x).closeExpress = s.closeExpress := rfl
@[simp] theorem State.setPort_closeBulk (s : State) (p : PortNo) (x : Port) : (s.setPort p x).closeBulk = s.closeBulk := rfl
@[simp] theorem State.setPort_evictionMark (s : State) (p : PortNo) (x : Port) : (s.setPort p x).evictionMark = s.evictionMark := rfl
@[simp] theorem State.setPort_blockMem (s : State) (p : PortNo) (x : Port) : (s.setPort p x).blockMem = s.blockMem := rfl
@[simp] theorem State.setPort_freeList (s : State) (p : PortNo) (x : Port) : (s.setPort p x).freeList = s.freeList := rfl
@[simp] theorem State.setPort_poolLowArmed (s : State) (p : PortNo) (x : Port) : (s.setPort p x).poolLowArmed = s.poolLowArmed := rfl
@[simp] theorem State.setPort_poolExhaustedArmed (s : State) (p : PortNo) (x : Port) : (s.setPort p x).poolExhaustedArmed = s.poolExhaustedArmed := rfl
@[simp] theorem State.setPort_minFree (s : State) (p : PortNo) (x : Port) : (s.setPort p x).minFree = s.minFree := rfl
@[simp] theorem State.setPort_allocFailures (s : State) (p : PortNo) (x : Port) : (s.setPort p x).allocFailures = s.allocFailures := rfl
@[simp] theorem State.setPort_expressQueue (s : State) (p : PortNo) (x : Port) : (s.setPort p x).expressQueue = s.expressQueue := rfl
@[simp] theorem State.setPort_bulkQueue (s : State) (p : PortNo) (x : Port) : (s.setPort p x).bulkQueue = s.bulkQueue := rfl
@[simp] theorem State.setPort_expressRun (s : State) (p : PortNo) (x : Port) : (s.setPort p x).expressRun = s.expressRun := rfl
@[simp] theorem State.setPort_startHistory (s : State) (p : PortNo) (x : Port) : (s.setPort p x).startHistory = s.startHistory := rfl
@[simp] theorem State.setPort_link (s : State) (p : PortNo) (x : Port) : (s.setPort p x).link = s.link := rfl
@[simp] theorem State.setPort_tx (s : State) (p : PortNo) (x : Port) : (s.setPort p x).tx = s.tx := rfl
@[simp] theorem State.setPort_controlQueue (s : State) (p : PortNo) (x : Port) : (s.setPort p x).controlQueue = s.controlQueue := rfl
@[simp] theorem State.setPort_retention (s : State) (p : PortNo) (x : Port) : (s.setPort p x).retention = s.retention := rfl
@[simp] theorem State.setPort_retransmitPtr (s : State) (p : PortNo) (x : Port) : (s.setPort p x).retransmitPtr = s.retransmitPtr := rfl
@[simp] theorem State.setPort_ackTimer (s : State) (p : PortNo) (x : Port) : (s.setPort p x).ackTimer = s.ackTimer := rfl
@[simp] theorem State.setPort_nextSeq (s : State) (p : PortNo) (x : Port) : (s.setPort p x).nextSeq = s.nextSeq := rfl
@[simp] theorem State.setPort_releasedHold (s : State) (p : PortNo) (x : Port) : (s.setPort p x).releasedHold = s.releasedHold := rfl
@[simp] theorem State.setPort_helloTimer (s : State) (p : PortNo) (x : Port) : (s.setPort p x).helloTimer = s.helloTimer := rfl
@[simp] theorem State.setPort_expectedDispatch (s : State) (p : PortNo) (x : Port) : (s.setPort p x).expectedDispatch = s.expectedDispatch := rfl
@[simp] theorem State.setPort_opState (s : State) (p : PortNo) (x : Port) : (s.setPort p x).opState = s.opState := rfl
@[simp] theorem State.setPort_replyCache (s : State) (p : PortNo) (x : Port) : (s.setPort p x).replyCache = s.replyCache := rfl
@[simp] theorem State.setPort_config (s : State) (p : PortNo) (x : Port) : (s.setPort p x).config = s.config := rfl
@[simp] theorem State.setPort_drainTimer (s : State) (p : PortNo) (x : Port) : (s.setPort p x).drainTimer = s.drainTimer := rfl
@[simp] theorem State.setPort_pendingReset (s : State) (p : PortNo) (x : Port) : (s.setPort p x).pendingReset = s.pendingReset := rfl
@[simp] theorem State.setPort_resetCause (s : State) (p : PortNo) (x : Port) : (s.setPort p x).resetCause = s.resetCause := rfl
@[simp] theorem State.setPort_eventQueue (s : State) (p : PortNo) (x : Port) : (s.setPort p x).eventQueue = s.eventQueue := rfl
@[simp] theorem State.setPort_eventNumber (s : State) (p : PortNo) (x : Port) : (s.setPort p x).eventNumber = s.eventNumber := rfl
@[simp] theorem State.setPort_lostEvents (s : State) (p : PortNo) (x : Port) : (s.setPort p x).lostEvents = s.lostEvents := rfl
@[simp] theorem State.setPort_intakeArmed (s : State) (p : PortNo) (x : Port) : (s.setPort p x).intakeArmed = s.intakeArmed := rfl
@[simp] theorem State.setPort_routeMissArmed (s : State) (p : PortNo) (x : Port) : (s.setPort p x).routeMissArmed = s.routeMissArmed := rfl
@[simp] theorem State.setPort_matchHits (s : State) (p : PortNo) (x : Port) : (s.setPort p x).matchHits = s.matchHits := rfl
@[simp] theorem State.setPort_classify (s : State) (p : PortNo) (x : Port) : (s.setPort p x).classify = s.classify := rfl
@[simp] theorem State.setPort_causes (s : State) (p : PortNo) (x : Port) : (s.setPort p x).causes = s.causes := rfl
@[simp] theorem State.setPort_trunk (s : State) (p : PortNo) (x : Port) : (s.setPort p x).trunk = s.trunk := rfl
@[simp] theorem State.setPort_dispatchCounters (s : State) (p : PortNo) (x : Port) : (s.setPort p x).dispatchCounters = s.dispatchCounters := rfl
@[simp] theorem State.setPort_mgmt (s : State) (p : PortNo) (x : Port) : (s.setPort p x).mgmt = s.mgmt := rfl
@[simp] theorem State.setPort_pending (s : State) (p : PortNo) (x : Port) : (s.setPort p x).pending = s.pending := rfl

/-! setSlot -/

@[simp] theorem State.setSlot_partTime (s : State) (n : SlotNo) (x : Slot) : (s.setSlot n x).partTime = s.partTime := rfl
@[simp] theorem State.setSlot_carrier (s : State) (n : SlotNo) (x : Slot) : (s.setSlot n x).carrier = s.carrier := rfl
@[simp] theorem State.setSlot_straps (s : State) (n : SlotNo) (x : Slot) : (s.setSlot n x).straps = s.straps := rfl
@[simp] theorem State.setSlot_strapChanges (s : State) (n : SlotNo) (x : Slot) : (s.setSlot n x).strapChanges = s.strapChanges := rfl
@[simp] theorem State.setSlot_supplyGood (s : State) (n : SlotNo) (x : Slot) : (s.setSlot n x).supplyGood = s.supplyGood := rfl
@[simp] theorem State.setSlot_resetNLow (s : State) (n : SlotNo) (x : Slot) : (s.setSlot n x).resetNLow = s.resetNLow := rfl
@[simp] theorem State.setSlot_unitNumber (s : State) (n : SlotNo) (x : Slot) : (s.setSlot n x).unitNumber = s.unitNumber := rfl
@[simp] theorem State.setSlot_ports (s : State) (n : SlotNo) (x : Slot) : (s.setSlot n x).ports = s.ports := rfl
@[simp] theorem State.setSlot_roundRobin (s : State) (n : SlotNo) (x : Slot) : (s.setSlot n x).roundRobin = s.roundRobin := rfl
@[simp] theorem State.setSlot_hold (s : State) (n : SlotNo) (x : Slot) : (s.setSlot n x).hold = s.hold := rfl
@[simp] theorem State.setSlot_active (s : State) (n : SlotNo) (x : Slot) : (s.setSlot n x).active = s.active := rfl
@[simp] theorem State.setSlot_shadow (s : State) (n : SlotNo) (x : Slot) : (s.setSlot n x).shadow = s.shadow := rfl
@[simp] theorem State.setSlot_profiles (s : State) (n : SlotNo) (x : Slot) : (s.setSlot n x).profiles = s.profiles := rfl
@[simp] theorem State.setSlot_templates (s : State) (n : SlotNo) (x : Slot) : (s.setSlot n x).templates = s.templates := rfl
@[simp] theorem State.setSlot_openOrder (s : State) (n : SlotNo) (x : Slot) : (s.setSlot n x).openOrder = s.openOrder := rfl
@[simp] theorem State.setSlot_closeExpress (s : State) (n : SlotNo) (x : Slot) : (s.setSlot n x).closeExpress = s.closeExpress := rfl
@[simp] theorem State.setSlot_closeBulk (s : State) (n : SlotNo) (x : Slot) : (s.setSlot n x).closeBulk = s.closeBulk := rfl
@[simp] theorem State.setSlot_evictionMark (s : State) (n : SlotNo) (x : Slot) : (s.setSlot n x).evictionMark = s.evictionMark := rfl
@[simp] theorem State.setSlot_blockMem (s : State) (n : SlotNo) (x : Slot) : (s.setSlot n x).blockMem = s.blockMem := rfl
@[simp] theorem State.setSlot_freeList (s : State) (n : SlotNo) (x : Slot) : (s.setSlot n x).freeList = s.freeList := rfl
@[simp] theorem State.setSlot_poolLowArmed (s : State) (n : SlotNo) (x : Slot) : (s.setSlot n x).poolLowArmed = s.poolLowArmed := rfl
@[simp] theorem State.setSlot_poolExhaustedArmed (s : State) (n : SlotNo) (x : Slot) : (s.setSlot n x).poolExhaustedArmed = s.poolExhaustedArmed := rfl
@[simp] theorem State.setSlot_minFree (s : State) (n : SlotNo) (x : Slot) : (s.setSlot n x).minFree = s.minFree := rfl
@[simp] theorem State.setSlot_allocFailures (s : State) (n : SlotNo) (x : Slot) : (s.setSlot n x).allocFailures = s.allocFailures := rfl
@[simp] theorem State.setSlot_expressQueue (s : State) (n : SlotNo) (x : Slot) : (s.setSlot n x).expressQueue = s.expressQueue := rfl
@[simp] theorem State.setSlot_bulkQueue (s : State) (n : SlotNo) (x : Slot) : (s.setSlot n x).bulkQueue = s.bulkQueue := rfl
@[simp] theorem State.setSlot_expressRun (s : State) (n : SlotNo) (x : Slot) : (s.setSlot n x).expressRun = s.expressRun := rfl
@[simp] theorem State.setSlot_startHistory (s : State) (n : SlotNo) (x : Slot) : (s.setSlot n x).startHistory = s.startHistory := rfl
@[simp] theorem State.setSlot_link (s : State) (n : SlotNo) (x : Slot) : (s.setSlot n x).link = s.link := rfl
@[simp] theorem State.setSlot_tx (s : State) (n : SlotNo) (x : Slot) : (s.setSlot n x).tx = s.tx := rfl
@[simp] theorem State.setSlot_controlQueue (s : State) (n : SlotNo) (x : Slot) : (s.setSlot n x).controlQueue = s.controlQueue := rfl
@[simp] theorem State.setSlot_retention (s : State) (n : SlotNo) (x : Slot) : (s.setSlot n x).retention = s.retention := rfl
@[simp] theorem State.setSlot_retransmitPtr (s : State) (n : SlotNo) (x : Slot) : (s.setSlot n x).retransmitPtr = s.retransmitPtr := rfl
@[simp] theorem State.setSlot_ackTimer (s : State) (n : SlotNo) (x : Slot) : (s.setSlot n x).ackTimer = s.ackTimer := rfl
@[simp] theorem State.setSlot_nextSeq (s : State) (n : SlotNo) (x : Slot) : (s.setSlot n x).nextSeq = s.nextSeq := rfl
@[simp] theorem State.setSlot_releasedHold (s : State) (n : SlotNo) (x : Slot) : (s.setSlot n x).releasedHold = s.releasedHold := rfl
@[simp] theorem State.setSlot_helloTimer (s : State) (n : SlotNo) (x : Slot) : (s.setSlot n x).helloTimer = s.helloTimer := rfl
@[simp] theorem State.setSlot_expectedDispatch (s : State) (n : SlotNo) (x : Slot) : (s.setSlot n x).expectedDispatch = s.expectedDispatch := rfl
@[simp] theorem State.setSlot_opState (s : State) (n : SlotNo) (x : Slot) : (s.setSlot n x).opState = s.opState := rfl
@[simp] theorem State.setSlot_replyCache (s : State) (n : SlotNo) (x : Slot) : (s.setSlot n x).replyCache = s.replyCache := rfl
@[simp] theorem State.setSlot_config (s : State) (n : SlotNo) (x : Slot) : (s.setSlot n x).config = s.config := rfl
@[simp] theorem State.setSlot_drainTimer (s : State) (n : SlotNo) (x : Slot) : (s.setSlot n x).drainTimer = s.drainTimer := rfl
@[simp] theorem State.setSlot_pendingReset (s : State) (n : SlotNo) (x : Slot) : (s.setSlot n x).pendingReset = s.pendingReset := rfl
@[simp] theorem State.setSlot_resetCause (s : State) (n : SlotNo) (x : Slot) : (s.setSlot n x).resetCause = s.resetCause := rfl
@[simp] theorem State.setSlot_eventQueue (s : State) (n : SlotNo) (x : Slot) : (s.setSlot n x).eventQueue = s.eventQueue := rfl
@[simp] theorem State.setSlot_eventNumber (s : State) (n : SlotNo) (x : Slot) : (s.setSlot n x).eventNumber = s.eventNumber := rfl
@[simp] theorem State.setSlot_lostEvents (s : State) (n : SlotNo) (x : Slot) : (s.setSlot n x).lostEvents = s.lostEvents := rfl
@[simp] theorem State.setSlot_intakeArmed (s : State) (n : SlotNo) (x : Slot) : (s.setSlot n x).intakeArmed = s.intakeArmed := rfl
@[simp] theorem State.setSlot_routeMissArmed (s : State) (n : SlotNo) (x : Slot) : (s.setSlot n x).routeMissArmed = s.routeMissArmed := rfl
@[simp] theorem State.setSlot_matchHits (s : State) (n : SlotNo) (x : Slot) : (s.setSlot n x).matchHits = s.matchHits := rfl
@[simp] theorem State.setSlot_classify (s : State) (n : SlotNo) (x : Slot) : (s.setSlot n x).classify = s.classify := rfl
@[simp] theorem State.setSlot_causes (s : State) (n : SlotNo) (x : Slot) : (s.setSlot n x).causes = s.causes := rfl
@[simp] theorem State.setSlot_trunk (s : State) (n : SlotNo) (x : Slot) : (s.setSlot n x).trunk = s.trunk := rfl
@[simp] theorem State.setSlot_dispatchCounters (s : State) (n : SlotNo) (x : Slot) : (s.setSlot n x).dispatchCounters = s.dispatchCounters := rfl
@[simp] theorem State.setSlot_mgmt (s : State) (n : SlotNo) (x : Slot) : (s.setSlot n x).mgmt = s.mgmt := rfl
@[simp] theorem State.setSlot_pending (s : State) (n : SlotNo) (x : Slot) : (s.setSlot n x).pending = s.pending := rfl

/-! setCloseOrder -/

@[simp] theorem State.setCloseOrder_partTime (s : State) (c : BundleClass) (l : List SlotNo) : (s.setCloseOrder c l).partTime = s.partTime := by cases c <;> rfl
@[simp] theorem State.setCloseOrder_carrier (s : State) (c : BundleClass) (l : List SlotNo) : (s.setCloseOrder c l).carrier = s.carrier := by cases c <;> rfl
@[simp] theorem State.setCloseOrder_straps (s : State) (c : BundleClass) (l : List SlotNo) : (s.setCloseOrder c l).straps = s.straps := by cases c <;> rfl
@[simp] theorem State.setCloseOrder_strapChanges (s : State) (c : BundleClass) (l : List SlotNo) : (s.setCloseOrder c l).strapChanges = s.strapChanges := by cases c <;> rfl
@[simp] theorem State.setCloseOrder_supplyGood (s : State) (c : BundleClass) (l : List SlotNo) : (s.setCloseOrder c l).supplyGood = s.supplyGood := by cases c <;> rfl
@[simp] theorem State.setCloseOrder_resetNLow (s : State) (c : BundleClass) (l : List SlotNo) : (s.setCloseOrder c l).resetNLow = s.resetNLow := by cases c <;> rfl
@[simp] theorem State.setCloseOrder_unitNumber (s : State) (c : BundleClass) (l : List SlotNo) : (s.setCloseOrder c l).unitNumber = s.unitNumber := by cases c <;> rfl
@[simp] theorem State.setCloseOrder_ports (s : State) (c : BundleClass) (l : List SlotNo) : (s.setCloseOrder c l).ports = s.ports := by cases c <;> rfl
@[simp] theorem State.setCloseOrder_roundRobin (s : State) (c : BundleClass) (l : List SlotNo) : (s.setCloseOrder c l).roundRobin = s.roundRobin := by cases c <;> rfl
@[simp] theorem State.setCloseOrder_hold (s : State) (c : BundleClass) (l : List SlotNo) : (s.setCloseOrder c l).hold = s.hold := by cases c <;> rfl
@[simp] theorem State.setCloseOrder_active (s : State) (c : BundleClass) (l : List SlotNo) : (s.setCloseOrder c l).active = s.active := by cases c <;> rfl
@[simp] theorem State.setCloseOrder_shadow (s : State) (c : BundleClass) (l : List SlotNo) : (s.setCloseOrder c l).shadow = s.shadow := by cases c <;> rfl
@[simp] theorem State.setCloseOrder_profiles (s : State) (c : BundleClass) (l : List SlotNo) : (s.setCloseOrder c l).profiles = s.profiles := by cases c <;> rfl
@[simp] theorem State.setCloseOrder_templates (s : State) (c : BundleClass) (l : List SlotNo) : (s.setCloseOrder c l).templates = s.templates := by cases c <;> rfl
@[simp] theorem State.setCloseOrder_slots (s : State) (c : BundleClass) (l : List SlotNo) : (s.setCloseOrder c l).slots = s.slots := by cases c <;> rfl
@[simp] theorem State.setCloseOrder_openOrder (s : State) (c : BundleClass) (l : List SlotNo) : (s.setCloseOrder c l).openOrder = s.openOrder := by cases c <;> rfl
@[simp] theorem State.setCloseOrder_evictionMark (s : State) (c : BundleClass) (l : List SlotNo) : (s.setCloseOrder c l).evictionMark = s.evictionMark := by cases c <;> rfl
@[simp] theorem State.setCloseOrder_blockMem (s : State) (c : BundleClass) (l : List SlotNo) : (s.setCloseOrder c l).blockMem = s.blockMem := by cases c <;> rfl
@[simp] theorem State.setCloseOrder_freeList (s : State) (c : BundleClass) (l : List SlotNo) : (s.setCloseOrder c l).freeList = s.freeList := by cases c <;> rfl
@[simp] theorem State.setCloseOrder_poolLowArmed (s : State) (c : BundleClass) (l : List SlotNo) : (s.setCloseOrder c l).poolLowArmed = s.poolLowArmed := by cases c <;> rfl
@[simp] theorem State.setCloseOrder_poolExhaustedArmed (s : State) (c : BundleClass) (l : List SlotNo) : (s.setCloseOrder c l).poolExhaustedArmed = s.poolExhaustedArmed := by cases c <;> rfl
@[simp] theorem State.setCloseOrder_minFree (s : State) (c : BundleClass) (l : List SlotNo) : (s.setCloseOrder c l).minFree = s.minFree := by cases c <;> rfl
@[simp] theorem State.setCloseOrder_allocFailures (s : State) (c : BundleClass) (l : List SlotNo) : (s.setCloseOrder c l).allocFailures = s.allocFailures := by cases c <;> rfl
@[simp] theorem State.setCloseOrder_expressQueue (s : State) (c : BundleClass) (l : List SlotNo) : (s.setCloseOrder c l).expressQueue = s.expressQueue := by cases c <;> rfl
@[simp] theorem State.setCloseOrder_bulkQueue (s : State) (c : BundleClass) (l : List SlotNo) : (s.setCloseOrder c l).bulkQueue = s.bulkQueue := by cases c <;> rfl
@[simp] theorem State.setCloseOrder_expressRun (s : State) (c : BundleClass) (l : List SlotNo) : (s.setCloseOrder c l).expressRun = s.expressRun := by cases c <;> rfl
@[simp] theorem State.setCloseOrder_startHistory (s : State) (c : BundleClass) (l : List SlotNo) : (s.setCloseOrder c l).startHistory = s.startHistory := by cases c <;> rfl
@[simp] theorem State.setCloseOrder_link (s : State) (c : BundleClass) (l : List SlotNo) : (s.setCloseOrder c l).link = s.link := by cases c <;> rfl
@[simp] theorem State.setCloseOrder_tx (s : State) (c : BundleClass) (l : List SlotNo) : (s.setCloseOrder c l).tx = s.tx := by cases c <;> rfl
@[simp] theorem State.setCloseOrder_controlQueue (s : State) (c : BundleClass) (l : List SlotNo) : (s.setCloseOrder c l).controlQueue = s.controlQueue := by cases c <;> rfl
@[simp] theorem State.setCloseOrder_retention (s : State) (c : BundleClass) (l : List SlotNo) : (s.setCloseOrder c l).retention = s.retention := by cases c <;> rfl
@[simp] theorem State.setCloseOrder_retransmitPtr (s : State) (c : BundleClass) (l : List SlotNo) : (s.setCloseOrder c l).retransmitPtr = s.retransmitPtr := by cases c <;> rfl
@[simp] theorem State.setCloseOrder_ackTimer (s : State) (c : BundleClass) (l : List SlotNo) : (s.setCloseOrder c l).ackTimer = s.ackTimer := by cases c <;> rfl
@[simp] theorem State.setCloseOrder_nextSeq (s : State) (c : BundleClass) (l : List SlotNo) : (s.setCloseOrder c l).nextSeq = s.nextSeq := by cases c <;> rfl
@[simp] theorem State.setCloseOrder_releasedHold (s : State) (c : BundleClass) (l : List SlotNo) : (s.setCloseOrder c l).releasedHold = s.releasedHold := by cases c <;> rfl
@[simp] theorem State.setCloseOrder_helloTimer (s : State) (c : BundleClass) (l : List SlotNo) : (s.setCloseOrder c l).helloTimer = s.helloTimer := by cases c <;> rfl
@[simp] theorem State.setCloseOrder_expectedDispatch (s : State) (c : BundleClass) (l : List SlotNo) : (s.setCloseOrder c l).expectedDispatch = s.expectedDispatch := by cases c <;> rfl
@[simp] theorem State.setCloseOrder_opState (s : State) (c : BundleClass) (l : List SlotNo) : (s.setCloseOrder c l).opState = s.opState := by cases c <;> rfl
@[simp] theorem State.setCloseOrder_replyCache (s : State) (c : BundleClass) (l : List SlotNo) : (s.setCloseOrder c l).replyCache = s.replyCache := by cases c <;> rfl
@[simp] theorem State.setCloseOrder_config (s : State) (c : BundleClass) (l : List SlotNo) : (s.setCloseOrder c l).config = s.config := by cases c <;> rfl
@[simp] theorem State.setCloseOrder_drainTimer (s : State) (c : BundleClass) (l : List SlotNo) : (s.setCloseOrder c l).drainTimer = s.drainTimer := by cases c <;> rfl
@[simp] theorem State.setCloseOrder_pendingReset (s : State) (c : BundleClass) (l : List SlotNo) : (s.setCloseOrder c l).pendingReset = s.pendingReset := by cases c <;> rfl
@[simp] theorem State.setCloseOrder_resetCause (s : State) (c : BundleClass) (l : List SlotNo) : (s.setCloseOrder c l).resetCause = s.resetCause := by cases c <;> rfl
@[simp] theorem State.setCloseOrder_eventQueue (s : State) (c : BundleClass) (l : List SlotNo) : (s.setCloseOrder c l).eventQueue = s.eventQueue := by cases c <;> rfl
@[simp] theorem State.setCloseOrder_eventNumber (s : State) (c : BundleClass) (l : List SlotNo) : (s.setCloseOrder c l).eventNumber = s.eventNumber := by cases c <;> rfl
@[simp] theorem State.setCloseOrder_lostEvents (s : State) (c : BundleClass) (l : List SlotNo) : (s.setCloseOrder c l).lostEvents = s.lostEvents := by cases c <;> rfl
@[simp] theorem State.setCloseOrder_intakeArmed (s : State) (c : BundleClass) (l : List SlotNo) : (s.setCloseOrder c l).intakeArmed = s.intakeArmed := by cases c <;> rfl
@[simp] theorem State.setCloseOrder_routeMissArmed (s : State) (c : BundleClass) (l : List SlotNo) : (s.setCloseOrder c l).routeMissArmed = s.routeMissArmed := by cases c <;> rfl
@[simp] theorem State.setCloseOrder_matchHits (s : State) (c : BundleClass) (l : List SlotNo) : (s.setCloseOrder c l).matchHits = s.matchHits := by cases c <;> rfl
@[simp] theorem State.setCloseOrder_classify (s : State) (c : BundleClass) (l : List SlotNo) : (s.setCloseOrder c l).classify = s.classify := by cases c <;> rfl
@[simp] theorem State.setCloseOrder_causes (s : State) (c : BundleClass) (l : List SlotNo) : (s.setCloseOrder c l).causes = s.causes := by cases c <;> rfl
@[simp] theorem State.setCloseOrder_trunk (s : State) (c : BundleClass) (l : List SlotNo) : (s.setCloseOrder c l).trunk = s.trunk := by cases c <;> rfl
@[simp] theorem State.setCloseOrder_dispatchCounters (s : State) (c : BundleClass) (l : List SlotNo) : (s.setCloseOrder c l).dispatchCounters = s.dispatchCounters := by cases c <;> rfl
@[simp] theorem State.setCloseOrder_mgmt (s : State) (c : BundleClass) (l : List SlotNo) : (s.setCloseOrder c l).mgmt = s.mgmt := by cases c <;> rfl
@[simp] theorem State.setCloseOrder_pending (s : State) (c : BundleClass) (l : List SlotNo) : (s.setCloseOrder c l).pending = s.pending := by cases c <;> rfl

/-! setQueue -/

@[simp] theorem State.setQueue_partTime (s : State) (c : BundleClass) (l : List Descriptor) : (s.setQueue c l).partTime = s.partTime := by cases c <;> rfl
@[simp] theorem State.setQueue_carrier (s : State) (c : BundleClass) (l : List Descriptor) : (s.setQueue c l).carrier = s.carrier := by cases c <;> rfl
@[simp] theorem State.setQueue_straps (s : State) (c : BundleClass) (l : List Descriptor) : (s.setQueue c l).straps = s.straps := by cases c <;> rfl
@[simp] theorem State.setQueue_strapChanges (s : State) (c : BundleClass) (l : List Descriptor) : (s.setQueue c l).strapChanges = s.strapChanges := by cases c <;> rfl
@[simp] theorem State.setQueue_supplyGood (s : State) (c : BundleClass) (l : List Descriptor) : (s.setQueue c l).supplyGood = s.supplyGood := by cases c <;> rfl
@[simp] theorem State.setQueue_resetNLow (s : State) (c : BundleClass) (l : List Descriptor) : (s.setQueue c l).resetNLow = s.resetNLow := by cases c <;> rfl
@[simp] theorem State.setQueue_unitNumber (s : State) (c : BundleClass) (l : List Descriptor) : (s.setQueue c l).unitNumber = s.unitNumber := by cases c <;> rfl
@[simp] theorem State.setQueue_ports (s : State) (c : BundleClass) (l : List Descriptor) : (s.setQueue c l).ports = s.ports := by cases c <;> rfl
@[simp] theorem State.setQueue_roundRobin (s : State) (c : BundleClass) (l : List Descriptor) : (s.setQueue c l).roundRobin = s.roundRobin := by cases c <;> rfl
@[simp] theorem State.setQueue_hold (s : State) (c : BundleClass) (l : List Descriptor) : (s.setQueue c l).hold = s.hold := by cases c <;> rfl
@[simp] theorem State.setQueue_active (s : State) (c : BundleClass) (l : List Descriptor) : (s.setQueue c l).active = s.active := by cases c <;> rfl
@[simp] theorem State.setQueue_shadow (s : State) (c : BundleClass) (l : List Descriptor) : (s.setQueue c l).shadow = s.shadow := by cases c <;> rfl
@[simp] theorem State.setQueue_profiles (s : State) (c : BundleClass) (l : List Descriptor) : (s.setQueue c l).profiles = s.profiles := by cases c <;> rfl
@[simp] theorem State.setQueue_templates (s : State) (c : BundleClass) (l : List Descriptor) : (s.setQueue c l).templates = s.templates := by cases c <;> rfl
@[simp] theorem State.setQueue_slots (s : State) (c : BundleClass) (l : List Descriptor) : (s.setQueue c l).slots = s.slots := by cases c <;> rfl
@[simp] theorem State.setQueue_openOrder (s : State) (c : BundleClass) (l : List Descriptor) : (s.setQueue c l).openOrder = s.openOrder := by cases c <;> rfl
@[simp] theorem State.setQueue_closeExpress (s : State) (c : BundleClass) (l : List Descriptor) : (s.setQueue c l).closeExpress = s.closeExpress := by cases c <;> rfl
@[simp] theorem State.setQueue_closeBulk (s : State) (c : BundleClass) (l : List Descriptor) : (s.setQueue c l).closeBulk = s.closeBulk := by cases c <;> rfl
@[simp] theorem State.setQueue_evictionMark (s : State) (c : BundleClass) (l : List Descriptor) : (s.setQueue c l).evictionMark = s.evictionMark := by cases c <;> rfl
@[simp] theorem State.setQueue_blockMem (s : State) (c : BundleClass) (l : List Descriptor) : (s.setQueue c l).blockMem = s.blockMem := by cases c <;> rfl
@[simp] theorem State.setQueue_freeList (s : State) (c : BundleClass) (l : List Descriptor) : (s.setQueue c l).freeList = s.freeList := by cases c <;> rfl
@[simp] theorem State.setQueue_poolLowArmed (s : State) (c : BundleClass) (l : List Descriptor) : (s.setQueue c l).poolLowArmed = s.poolLowArmed := by cases c <;> rfl
@[simp] theorem State.setQueue_poolExhaustedArmed (s : State) (c : BundleClass) (l : List Descriptor) : (s.setQueue c l).poolExhaustedArmed = s.poolExhaustedArmed := by cases c <;> rfl
@[simp] theorem State.setQueue_minFree (s : State) (c : BundleClass) (l : List Descriptor) : (s.setQueue c l).minFree = s.minFree := by cases c <;> rfl
@[simp] theorem State.setQueue_allocFailures (s : State) (c : BundleClass) (l : List Descriptor) : (s.setQueue c l).allocFailures = s.allocFailures := by cases c <;> rfl
@[simp] theorem State.setQueue_expressRun (s : State) (c : BundleClass) (l : List Descriptor) : (s.setQueue c l).expressRun = s.expressRun := by cases c <;> rfl
@[simp] theorem State.setQueue_startHistory (s : State) (c : BundleClass) (l : List Descriptor) : (s.setQueue c l).startHistory = s.startHistory := by cases c <;> rfl
@[simp] theorem State.setQueue_link (s : State) (c : BundleClass) (l : List Descriptor) : (s.setQueue c l).link = s.link := by cases c <;> rfl
@[simp] theorem State.setQueue_tx (s : State) (c : BundleClass) (l : List Descriptor) : (s.setQueue c l).tx = s.tx := by cases c <;> rfl
@[simp] theorem State.setQueue_controlQueue (s : State) (c : BundleClass) (l : List Descriptor) : (s.setQueue c l).controlQueue = s.controlQueue := by cases c <;> rfl
@[simp] theorem State.setQueue_retention (s : State) (c : BundleClass) (l : List Descriptor) : (s.setQueue c l).retention = s.retention := by cases c <;> rfl
@[simp] theorem State.setQueue_retransmitPtr (s : State) (c : BundleClass) (l : List Descriptor) : (s.setQueue c l).retransmitPtr = s.retransmitPtr := by cases c <;> rfl
@[simp] theorem State.setQueue_ackTimer (s : State) (c : BundleClass) (l : List Descriptor) : (s.setQueue c l).ackTimer = s.ackTimer := by cases c <;> rfl
@[simp] theorem State.setQueue_nextSeq (s : State) (c : BundleClass) (l : List Descriptor) : (s.setQueue c l).nextSeq = s.nextSeq := by cases c <;> rfl
@[simp] theorem State.setQueue_releasedHold (s : State) (c : BundleClass) (l : List Descriptor) : (s.setQueue c l).releasedHold = s.releasedHold := by cases c <;> rfl
@[simp] theorem State.setQueue_helloTimer (s : State) (c : BundleClass) (l : List Descriptor) : (s.setQueue c l).helloTimer = s.helloTimer := by cases c <;> rfl
@[simp] theorem State.setQueue_expectedDispatch (s : State) (c : BundleClass) (l : List Descriptor) : (s.setQueue c l).expectedDispatch = s.expectedDispatch := by cases c <;> rfl
@[simp] theorem State.setQueue_opState (s : State) (c : BundleClass) (l : List Descriptor) : (s.setQueue c l).opState = s.opState := by cases c <;> rfl
@[simp] theorem State.setQueue_replyCache (s : State) (c : BundleClass) (l : List Descriptor) : (s.setQueue c l).replyCache = s.replyCache := by cases c <;> rfl
@[simp] theorem State.setQueue_config (s : State) (c : BundleClass) (l : List Descriptor) : (s.setQueue c l).config = s.config := by cases c <;> rfl
@[simp] theorem State.setQueue_drainTimer (s : State) (c : BundleClass) (l : List Descriptor) : (s.setQueue c l).drainTimer = s.drainTimer := by cases c <;> rfl
@[simp] theorem State.setQueue_pendingReset (s : State) (c : BundleClass) (l : List Descriptor) : (s.setQueue c l).pendingReset = s.pendingReset := by cases c <;> rfl
@[simp] theorem State.setQueue_resetCause (s : State) (c : BundleClass) (l : List Descriptor) : (s.setQueue c l).resetCause = s.resetCause := by cases c <;> rfl
@[simp] theorem State.setQueue_eventQueue (s : State) (c : BundleClass) (l : List Descriptor) : (s.setQueue c l).eventQueue = s.eventQueue := by cases c <;> rfl
@[simp] theorem State.setQueue_eventNumber (s : State) (c : BundleClass) (l : List Descriptor) : (s.setQueue c l).eventNumber = s.eventNumber := by cases c <;> rfl
@[simp] theorem State.setQueue_lostEvents (s : State) (c : BundleClass) (l : List Descriptor) : (s.setQueue c l).lostEvents = s.lostEvents := by cases c <;> rfl
@[simp] theorem State.setQueue_intakeArmed (s : State) (c : BundleClass) (l : List Descriptor) : (s.setQueue c l).intakeArmed = s.intakeArmed := by cases c <;> rfl
@[simp] theorem State.setQueue_routeMissArmed (s : State) (c : BundleClass) (l : List Descriptor) : (s.setQueue c l).routeMissArmed = s.routeMissArmed := by cases c <;> rfl
@[simp] theorem State.setQueue_matchHits (s : State) (c : BundleClass) (l : List Descriptor) : (s.setQueue c l).matchHits = s.matchHits := by cases c <;> rfl
@[simp] theorem State.setQueue_classify (s : State) (c : BundleClass) (l : List Descriptor) : (s.setQueue c l).classify = s.classify := by cases c <;> rfl
@[simp] theorem State.setQueue_causes (s : State) (c : BundleClass) (l : List Descriptor) : (s.setQueue c l).causes = s.causes := by cases c <;> rfl
@[simp] theorem State.setQueue_trunk (s : State) (c : BundleClass) (l : List Descriptor) : (s.setQueue c l).trunk = s.trunk := by cases c <;> rfl
@[simp] theorem State.setQueue_dispatchCounters (s : State) (c : BundleClass) (l : List Descriptor) : (s.setQueue c l).dispatchCounters = s.dispatchCounters := by cases c <;> rfl
@[simp] theorem State.setQueue_mgmt (s : State) (c : BundleClass) (l : List Descriptor) : (s.setQueue c l).mgmt = s.mgmt := by cases c <;> rfl
@[simp] theorem State.setQueue_pending (s : State) (c : BundleClass) (l : List Descriptor) : (s.setQueue c l).pending = s.pending := by cases c <;> rfl

/-! placeControl -/

@[simp] theorem State.placeControl_partTime (s : State) (e : ControlEntry) : (s.placeControl e).partTime = s.partTime := rfl
@[simp] theorem State.placeControl_carrier (s : State) (e : ControlEntry) : (s.placeControl e).carrier = s.carrier := rfl
@[simp] theorem State.placeControl_straps (s : State) (e : ControlEntry) : (s.placeControl e).straps = s.straps := rfl
@[simp] theorem State.placeControl_strapChanges (s : State) (e : ControlEntry) : (s.placeControl e).strapChanges = s.strapChanges := rfl
@[simp] theorem State.placeControl_supplyGood (s : State) (e : ControlEntry) : (s.placeControl e).supplyGood = s.supplyGood := rfl
@[simp] theorem State.placeControl_resetNLow (s : State) (e : ControlEntry) : (s.placeControl e).resetNLow = s.resetNLow := rfl
@[simp] theorem State.placeControl_unitNumber (s : State) (e : ControlEntry) : (s.placeControl e).unitNumber = s.unitNumber := rfl
@[simp] theorem State.placeControl_ports (s : State) (e : ControlEntry) : (s.placeControl e).ports = s.ports := rfl
@[simp] theorem State.placeControl_roundRobin (s : State) (e : ControlEntry) : (s.placeControl e).roundRobin = s.roundRobin := rfl
@[simp] theorem State.placeControl_hold (s : State) (e : ControlEntry) : (s.placeControl e).hold = s.hold := rfl
@[simp] theorem State.placeControl_active (s : State) (e : ControlEntry) : (s.placeControl e).active = s.active := rfl
@[simp] theorem State.placeControl_shadow (s : State) (e : ControlEntry) : (s.placeControl e).shadow = s.shadow := rfl
@[simp] theorem State.placeControl_profiles (s : State) (e : ControlEntry) : (s.placeControl e).profiles = s.profiles := rfl
@[simp] theorem State.placeControl_templates (s : State) (e : ControlEntry) : (s.placeControl e).templates = s.templates := rfl
@[simp] theorem State.placeControl_slots (s : State) (e : ControlEntry) : (s.placeControl e).slots = s.slots := rfl
@[simp] theorem State.placeControl_openOrder (s : State) (e : ControlEntry) : (s.placeControl e).openOrder = s.openOrder := rfl
@[simp] theorem State.placeControl_closeExpress (s : State) (e : ControlEntry) : (s.placeControl e).closeExpress = s.closeExpress := rfl
@[simp] theorem State.placeControl_closeBulk (s : State) (e : ControlEntry) : (s.placeControl e).closeBulk = s.closeBulk := rfl
@[simp] theorem State.placeControl_evictionMark (s : State) (e : ControlEntry) : (s.placeControl e).evictionMark = s.evictionMark := rfl
@[simp] theorem State.placeControl_blockMem (s : State) (e : ControlEntry) : (s.placeControl e).blockMem = s.blockMem := rfl
@[simp] theorem State.placeControl_freeList (s : State) (e : ControlEntry) : (s.placeControl e).freeList = s.freeList := rfl
@[simp] theorem State.placeControl_poolLowArmed (s : State) (e : ControlEntry) : (s.placeControl e).poolLowArmed = s.poolLowArmed := rfl
@[simp] theorem State.placeControl_poolExhaustedArmed (s : State) (e : ControlEntry) : (s.placeControl e).poolExhaustedArmed = s.poolExhaustedArmed := rfl
@[simp] theorem State.placeControl_minFree (s : State) (e : ControlEntry) : (s.placeControl e).minFree = s.minFree := rfl
@[simp] theorem State.placeControl_allocFailures (s : State) (e : ControlEntry) : (s.placeControl e).allocFailures = s.allocFailures := rfl
@[simp] theorem State.placeControl_expressQueue (s : State) (e : ControlEntry) : (s.placeControl e).expressQueue = s.expressQueue := rfl
@[simp] theorem State.placeControl_bulkQueue (s : State) (e : ControlEntry) : (s.placeControl e).bulkQueue = s.bulkQueue := rfl
@[simp] theorem State.placeControl_expressRun (s : State) (e : ControlEntry) : (s.placeControl e).expressRun = s.expressRun := rfl
@[simp] theorem State.placeControl_startHistory (s : State) (e : ControlEntry) : (s.placeControl e).startHistory = s.startHistory := rfl
@[simp] theorem State.placeControl_link (s : State) (e : ControlEntry) : (s.placeControl e).link = s.link := rfl
@[simp] theorem State.placeControl_tx (s : State) (e : ControlEntry) : (s.placeControl e).tx = s.tx := rfl
@[simp] theorem State.placeControl_retention (s : State) (e : ControlEntry) : (s.placeControl e).retention = s.retention := rfl
@[simp] theorem State.placeControl_retransmitPtr (s : State) (e : ControlEntry) : (s.placeControl e).retransmitPtr = s.retransmitPtr := rfl
@[simp] theorem State.placeControl_ackTimer (s : State) (e : ControlEntry) : (s.placeControl e).ackTimer = s.ackTimer := rfl
@[simp] theorem State.placeControl_nextSeq (s : State) (e : ControlEntry) : (s.placeControl e).nextSeq = s.nextSeq := rfl
@[simp] theorem State.placeControl_releasedHold (s : State) (e : ControlEntry) : (s.placeControl e).releasedHold = s.releasedHold := rfl
@[simp] theorem State.placeControl_helloTimer (s : State) (e : ControlEntry) : (s.placeControl e).helloTimer = s.helloTimer := rfl
@[simp] theorem State.placeControl_expectedDispatch (s : State) (e : ControlEntry) : (s.placeControl e).expectedDispatch = s.expectedDispatch := rfl
@[simp] theorem State.placeControl_opState (s : State) (e : ControlEntry) : (s.placeControl e).opState = s.opState := rfl
@[simp] theorem State.placeControl_replyCache (s : State) (e : ControlEntry) : (s.placeControl e).replyCache = s.replyCache := rfl
@[simp] theorem State.placeControl_config (s : State) (e : ControlEntry) : (s.placeControl e).config = s.config := rfl
@[simp] theorem State.placeControl_drainTimer (s : State) (e : ControlEntry) : (s.placeControl e).drainTimer = s.drainTimer := rfl
@[simp] theorem State.placeControl_pendingReset (s : State) (e : ControlEntry) : (s.placeControl e).pendingReset = s.pendingReset := rfl
@[simp] theorem State.placeControl_resetCause (s : State) (e : ControlEntry) : (s.placeControl e).resetCause = s.resetCause := rfl
@[simp] theorem State.placeControl_eventQueue (s : State) (e : ControlEntry) : (s.placeControl e).eventQueue = s.eventQueue := rfl
@[simp] theorem State.placeControl_eventNumber (s : State) (e : ControlEntry) : (s.placeControl e).eventNumber = s.eventNumber := rfl
@[simp] theorem State.placeControl_lostEvents (s : State) (e : ControlEntry) : (s.placeControl e).lostEvents = s.lostEvents := rfl
@[simp] theorem State.placeControl_intakeArmed (s : State) (e : ControlEntry) : (s.placeControl e).intakeArmed = s.intakeArmed := rfl
@[simp] theorem State.placeControl_routeMissArmed (s : State) (e : ControlEntry) : (s.placeControl e).routeMissArmed = s.routeMissArmed := rfl
@[simp] theorem State.placeControl_matchHits (s : State) (e : ControlEntry) : (s.placeControl e).matchHits = s.matchHits := rfl
@[simp] theorem State.placeControl_classify (s : State) (e : ControlEntry) : (s.placeControl e).classify = s.classify := rfl
@[simp] theorem State.placeControl_causes (s : State) (e : ControlEntry) : (s.placeControl e).causes = s.causes := rfl
@[simp] theorem State.placeControl_trunk (s : State) (e : ControlEntry) : (s.placeControl e).trunk = s.trunk := rfl
@[simp] theorem State.placeControl_dispatchCounters (s : State) (e : ControlEntry) : (s.placeControl e).dispatchCounters = s.dispatchCounters := rfl
@[simp] theorem State.placeControl_mgmt (s : State) (e : ControlEntry) : (s.placeControl e).mgmt = s.mgmt := rfl
@[simp] theorem State.placeControl_pending (s : State) (e : ControlEntry) : (s.placeControl e).pending = s.pending := rfl

/-! What the touched field holds -/

@[simp] theorem State.setPort_ports (s : State) (p : PortNo) (x : Port) :
    (s.setPort p x).ports = s.ports.set p.val x p.isLt := rfl
@[simp] theorem State.setSlot_slots (s : State) (n : SlotNo) (x : Slot) :
    (s.setSlot n x).slots = s.slots.set n.val x n.isLt := rfl
@[simp] theorem State.placeControl_controlQueue (s : State) (e : ControlEntry) :
    (s.placeControl e).controlQueue = s.controlQueue ++ [e] := rfl

theorem State.modPort_eq (s : State) (p : PortNo) (f : Port → Port) : s.modPort p f = s.setPort p (f s.ports[p]) := rfl

@[simp] theorem State.setPort_setPort (s : State) (p : PortNo) (x y : Port) :
    (s.setPort p x).setPort p y = s.setPort p y := by
  simp [State.setPort]

theorem State.setPort_self (s : State) (p : PortNo) : s.setPort p s.ports[p] = s := by
  simp [State.setPort]

/-- A port read back after a write. -/
theorem State.setPort_get (s : State) (p q : PortNo) (x : Port) :
    (s.setPort p x).ports[q] = if q = p then x else s.ports[q] := by
  by_cases h : q = p
  · subst h; simp
  · have : (p : Nat) ≠ q := fun e => h (Fin.ext e.symm)
    simp [h, this]

/-- A slot read back after a write. -/
theorem State.setSlot_get (s : State) (n m : SlotNo) (x : Slot) :
    (s.setSlot n x).slots[m] = if m = n then x else s.slots[m] := by
  by_cases h : m = n
  · subst h; simp
  · have : (n : Nat) ≠ m := fun e => h (Fin.ext e.symm)
    simp [h, this]

@[simp] theorem State.setCloseOrder_closeOrder (s : State) (c : BundleClass) (l : List SlotNo) :
    (s.setCloseOrder c l).closeOrder c = l := by cases c <;> rfl

theorem State.setCloseOrder_closeOrder_ne (s : State) {c c' : BundleClass} (l : List SlotNo) (h : c' ≠ c) :
    (s.setCloseOrder c l).closeOrder c' = s.closeOrder c' := by cases c <;> cases c' <;> first | rfl | exact absurd rfl h

@[simp] theorem State.setQueue_queue (s : State) (c : BundleClass) (l : List Descriptor) :
    (s.setQueue c l).queue c = l := by cases c <;> rfl

theorem State.setQueue_queue_ne (s : State) {c c' : BundleClass} (l : List Descriptor) (h : c' ≠ c) :
    (s.setQueue c l).queue c' = s.queue c' := by cases c <;> cases c' <;> first | rfl | exact absurd rfl h

@[simp] theorem State.setQueue_closeOrder (s : State) (c c' : BundleClass) (l : List Descriptor) :
    (s.setQueue c l).closeOrder c' = s.closeOrder c' := by cases c <;> cases c' <;> rfl

@[simp] theorem State.setCloseOrder_queue (s : State) (c c' : BundleClass) (l : List SlotNo) :
    (s.setCloseOrder c l).queue c' = s.queue c' := by cases c <;> cases c' <;> rfl

@[simp] theorem State.setSlot_closeOrder (s : State) (n : SlotNo) (x : Slot) (c : BundleClass) :
    (s.setSlot n x).closeOrder c = s.closeOrder c := by cases c <;> rfl

@[simp] theorem State.setSlot_queue (s : State) (n : SlotNo) (x : Slot) (c : BundleClass) :
    (s.setSlot n x).queue c = s.queue c := by cases c <;> rfl

end Sys2Proof.Machine
end

