-- ==== Sys2Proof/Laws/Reach.lean ====
section
/-! SUPPORT. What each shared operation can touch. A reach says that the state after is the state before with the named fields taken from the state after: it is one equation, reaches compose by rewriting, and every other field is read off by `congrArg`. -/

namespace Sys2Proof.Machine

/-- `s` with the fields of the Event Unit taken from `t`, and the MGMT counter it keeps. -/
def State.eventsOf (s t : State) : State :=
  { s with
    eventQueue := t.eventQueue, eventNumber := t.eventNumber, lostEvents := t.lostEvents
    mgmt := { s.mgmt with eventsLost := t.mgmt.eventsLost } }

/-- `s` with what placements, closes and returns of blocks touch taken from `t`. -/
def State.buildOf (s t : State) : State :=
  { s with
    slots := t.slots, openOrder := t.openOrder, closeExpress := t.closeExpress, closeBulk := t.closeBulk
    evictionMark := t.evictionMark, blockMem := t.blockMem, freeList := t.freeList
    poolLowArmed := t.poolLowArmed, poolExhaustedArmed := t.poolExhaustedArmed, minFree := t.minFree
    allocFailures := t.allocFailures, classify := t.classify, causes := t.causes, eventQueue := t.eventQueue
    eventNumber := t.eventNumber, lostEvents := t.lostEvents
    mgmt := { s.mgmt with eventsLost := t.mgmt.eventsLost } }

/-- `s` with what a trigger touches taken from `t`: a placement, and the hold stage. -/
def State.trialOf (s t : State) : State :=
  { s with
    hold := t.hold, slots := t.slots, openOrder := t.openOrder, closeExpress := t.closeExpress
    closeBulk := t.closeBulk, evictionMark := t.evictionMark, blockMem := t.blockMem, freeList := t.freeList
    poolLowArmed := t.poolLowArmed, poolExhaustedArmed := t.poolExhaustedArmed, minFree := t.minFree
    allocFailures := t.allocFailures, classify := t.classify, causes := t.causes, eventQueue := t.eventQueue
    eventNumber := t.eventNumber, lostEvents := t.lostEvents
    mgmt := { s.mgmt with eventsLost := t.mgmt.eventsLost } }

/-- `s` with what a move, a trigger or the end of DRAINING touches taken from `t`. -/
def State.moveOf (s t : State) : State :=
  { s with
    hold := t.hold, expressQueue := t.expressQueue, bulkQueue := t.bulkQueue, opState := t.opState
    drainTimer := t.drainTimer, replyCache := t.replyCache, controlQueue := t.controlQueue, slots := t.slots
    openOrder := t.openOrder, closeExpress := t.closeExpress, closeBulk := t.closeBulk
    evictionMark := t.evictionMark, blockMem := t.blockMem, freeList := t.freeList
    poolLowArmed := t.poolLowArmed, poolExhaustedArmed := t.poolExhaustedArmed, minFree := t.minFree
    allocFailures := t.allocFailures, classify := t.classify, causes := t.causes, eventQueue := t.eventQueue
    eventNumber := t.eventNumber, lostEvents := t.lostEvents
    mgmt := { s.mgmt with eventsLost := t.mgmt.eventsLost } }

/-- `s` with what removals from the Retention List touch taken from `t`. -/
def State.removalOf (s t : State) : State :=
  { s with
    hold := t.hold, retention := t.retention, releasedHold := t.releasedHold, slots := t.slots
    openOrder := t.openOrder, closeExpress := t.closeExpress, closeBulk := t.closeBulk
    evictionMark := t.evictionMark, blockMem := t.blockMem, freeList := t.freeList
    poolLowArmed := t.poolLowArmed, poolExhaustedArmed := t.poolExhaustedArmed, minFree := t.minFree
    allocFailures := t.allocFailures, classify := t.classify, causes := t.causes, eventQueue := t.eventQueue
    eventNumber := t.eventNumber, lostEvents := t.lostEvents
    mgmt := { s.mgmt with eventsLost := t.mgmt.eventsLost } }

/-- Only the Event Unit's fields, and events lost, have changed. -/
def EventReach (s t : State) : Prop := t = s.eventsOf t

/-- Only slots and their lists, eviction mark, block storage, Free List with its flags and levels, CLASSIFY and CAUSE counters, and the events have changed. -/
def BuildReach (s t : State) : Prop := t = s.buildOf t

/-- Only what a placement touches, and the hold stage, have changed. -/
def TrialReach (s t : State) : Prop := t = s.trialOf t

/-- Only what a trigger touches, the Emission Queues, operating state, drain timer, Reply Cache and Control Queue have changed. -/
def MoveReach (s t : State) : Prop := t = s.moveOf t

/-- Only what a trigger touches, the Retention List and the released-bundle hold have changed. -/
def RemovalReach (s t : State) : Prop := t = s.removalOf t

/-! ### Reaches compose -/

theorem EventReach.refl (s : State) : EventReach s s := by cases s; rfl
theorem BuildReach.refl (s : State) : BuildReach s s := by cases s; rfl
theorem TrialReach.refl (s : State) : TrialReach s s := by cases s; rfl
theorem MoveReach.refl (s : State) : MoveReach s s := by cases s; rfl
theorem RemovalReach.refl (s : State) : RemovalReach s s := by cases s; rfl

theorem EventReach.trans {s t u : State} (h : EventReach s t) (h' : EventReach t u) : EventReach s u :=
  calc u = t.eventsOf u := h'
    _ = (s.eventsOf t).eventsOf u := congrArg (fun x => x.eventsOf u) h
    _ = s.eventsOf u := rfl

theorem BuildReach.trans {s t u : State} (h : BuildReach s t) (h' : BuildReach t u) : BuildReach s u :=
  calc u = t.buildOf u := h'
    _ = (s.buildOf t).buildOf u := congrArg (fun x => x.buildOf u) h
    _ = s.buildOf u := rfl

theorem TrialReach.trans {s t u : State} (h : TrialReach s t) (h' : TrialReach t u) : TrialReach s u :=
  calc u = t.trialOf u := h'
    _ = (s.trialOf t).trialOf u := congrArg (fun x => x.trialOf u) h
    _ = s.trialOf u := rfl

theorem MoveReach.trans {s t u : State} (h : MoveReach s t) (h' : MoveReach t u) : MoveReach s u :=
  calc u = t.moveOf u := h'
    _ = (s.moveOf t).moveOf u := congrArg (fun x => x.moveOf u) h
    _ = s.moveOf u := rfl

theorem RemovalReach.trans {s t u : State} (h : RemovalReach s t) (h' : RemovalReach t u) : RemovalReach s u :=
  calc u = t.removalOf u := h'
    _ = (s.removalOf t).removalOf u := congrArg (fun x => x.removalOf u) h
    _ = s.removalOf u := rfl

theorem EventReach.build {s t : State} (h : EventReach s t) : BuildReach s t := by
  unfold BuildReach
  rw [h]
  rfl

theorem BuildReach.trial {s t : State} (h : BuildReach s t) : TrialReach s t := by
  unfold TrialReach
  rw [h]
  rfl

theorem TrialReach.move {s t : State} (h : TrialReach s t) : MoveReach s t := by
  unfold MoveReach
  rw [h]
  rfl

theorem TrialReach.removal {s t : State} (h : TrialReach s t) : RemovalReach s t := by
  unfold RemovalReach
  rw [h]
  rfl

/-! ### The reach of each shared operation -/

theorem raise_reach (s : State) (e : Event) : EventReach s (raise s e) := by
  unfold raise
  repeat' split
  all_goals rfl

theorem checkPoolLow_reach (s : State) : BuildReach s (checkPoolLow s) := by
  unfold checkPoolLow
  split
  · exact BuildReach.trans (t := { s with poolLowArmed := false }) rfl (raise_reach _ _).build
  · rfl

theorem checkPoolExhausted_reach (s : State) : BuildReach s (checkPoolExhausted s) := by
  unfold checkPoolExhausted
  split
  · exact BuildReach.trans (t := { s with poolExhaustedArmed := false }) rfl (raise_reach _ _).build
  · rfl

theorem rearmPool_reach (s : State) : BuildReach s (rearmPool s) := by
  unfold rearmPool
  split <;> rfl

theorem returnChain_reach (s : State) (chain : List BlockNo) : BuildReach s (returnChain s chain) :=
  BuildReach.trans (t := { s with freeList := s.freeList ++ chain }) rfl (rearmPool_reach _)

theorem grant_reach (s : State) (k : Nat) : BuildReach s (grant s k).1 := by
  unfold grant
  split
  · refine BuildReach.trans ?_ (checkPoolLow_reach _)
    rfl
  · refine BuildReach.trans ?_ (checkPoolExhausted_reach _)
    rfl

theorem setSlot_reach (s : State) (n : SlotNo) (x : Slot) : BuildReach s (s.setSlot n x) := rfl

theorem setCloseOrder_reach (s : State) (c : BundleClass) (l : List SlotNo) : BuildReach s (s.setCloseOrder c l) := by
  cases c <;> rfl

/-- Direct changes of the marks, lists and counters of the Slot Table. -/
theorem slotTable_reach (s : State) (m : Option SlotNo) (oo : List SlotNo) (cl : ClassifyCounters) (ca : CauseCounters)
    (bm : Memory) :
    BuildReach s { s with evictionMark := m, openOrder := oo, classify := cl, causes := ca, blockMem := bm } := rfl

theorem closeSlot_reach (s : State) (n : SlotNo) (cause : CloseCause) : BuildReach s (closeSlot s n cause) := by
  unfold closeSlot
  split
  · rename_i b _ _ _
    dsimp only
    generalize queueClassOf b cause = cls
    cases cls <;> rfl
  · rfl

theorem closeAll_reach (s : State) (cause : CloseCause) : BuildReach s (closeAll s cause) := by
  unfold closeAll
  generalize s.openOrder = l
  induction l generalizing s with
  | nil => rfl
  | cons n l ih => exact BuildReach.trans (closeSlot_reach s n cause) (ih _)

theorem postAppend_reach (s : State) (n : SlotNo) (t : TakenRecord) : BuildReach s (postAppend s n t) := by
  unfold postAppend
  repeat' split
  all_goals first | exact closeSlot_reach _ _ _ | rfl

theorem appendEntry_reach (s : State) (n : SlotNo) (b : Bundle) (age : Option PartTime) (t : TakenRecord)
    (blocks : List BlockNo) : BuildReach s (appendEntry s n b age t blocks) := by
  refine BuildReach.trans ?_ (postAppend_reach _ _ _)
  rfl

theorem openSlot_reach (s : State) (n : SlotNo) (p : Fin 32) (t : TakenRecord) (blocks : List BlockNo) :
    BuildReach s (openSlot s n p t blocks) := by
  refine BuildReach.trans ?_ (postAppend_reach _ _ _)
  rfl

theorem startEviction_reach (s : State) : BuildReach s (startEviction s) := by
  unfold startEviction
  split
  · rename_i n _ _ _
    exact (closeSlot_reach s n .evicted).trans (slotTable_reach _ _ _ _ _ _)
  · rfl

theorem placeNew_reach (s : State) (p : Fin 32) (t : TakenRecord) : BuildReach s (placeNew s p t).1 := by
  unfold placeNew
  split
  · have granted := grant_reach s (openNeed s s.profiles[p] t)
    split
    · rename_i h
      rw [h] at granted
      exact granted.trans (openSlot_reach _ _ _ _ _)
    · rename_i h
      rw [h] at granted
      exact granted
  · exact startEviction_reach s

theorem placeValid_reach (s : State) (p : Fin 32) (t : TakenRecord) : BuildReach s (placeValid s p t).1 := by
  unfold placeValid
  split
  · exact placeNew_reach s p t
  · dsimp only
    split
    · exact (closeSlot_reach s _ _).trans (placeNew_reach _ p t)
    · split
      · exact appendEntry_reach s _ _ _ _ _
      · have granted := grant_reach s 1
        split
        · rename_i h
          rw [h] at granted
          exact granted.trans (appendEntry_reach _ _ _ _ _ _)
        · rename_i h
          rw [h] at granted
          exact granted.trans (closeSlot_reach _ _ _)

/-- A placement attempt touches only what its reach names. -/
theorem place_reach (s : State) (p : Fin 32) (t : TakenRecord) : BuildReach s (place s p t).1 := by
  unfold place
  split
  · have placed := placeValid_reach s p t
    split
    · rename_i h
      rw [h] at placed
      exact placed.trans (slotTable_reach _ _ _ _ _ _)
    · exact placed
  · rfl

/-- A trigger touches only what a placement touches, and the hold stage. -/
theorem tryHeld_reach (s : State) : TrialReach s (tryHeld s) := by
  unfold tryHeld
  split
  · rename_i h _ _
    have placed := place_reach s h.profile h.taken
    split
    · rename_i hp
      rw [hp] at placed
      exact placed.trial
    · rename_i hp
      rw [hp] at placed
      exact placed.trial.trans rfl
  · rfl

theorem giveBack_reach (s : State) (chain : List BlockNo) : TrialReach s (giveBack s chain) :=
  (returnChain_reach s chain).trial.trans (tryHeld_reach _)

theorem discardSlot_reach (s : State) (n : SlotNo) : TrialReach s (discardSlot s n) := by
  unfold discardSlot
  split
  · rename_i b _ cls _
    refine (giveBack_reach s b.chain).trans ?_
    generalize giveBack s b.chain = u
    cases cls <;> rfl
  · rfl

theorem discardClosed_reach (s : State) : TrialReach s (discardClosed s) := by
  unfold discardClosed
  generalize s.closeExpress ++ s.closeBulk = l
  induction l generalizing s with
  | nil => rfl
  | cons n l ih => exact (discardSlot_reach s n).trans (ih _)

theorem endDrain_reach (s : State) (status : Status) (result : List Byte) : MoveReach s (endDrain s status result) := by
  unfold endDrain
  dsimp only
  repeat' split
  all_goals rfl

theorem slotBecameIdle_reach (s : State) : MoveReach s (slotBecameIdle s) := by
  unfold slotBecameIdle
  split
  · exact (tryHeld_reach s).move
  · split
    · exact endDrain_reach s _ _
    · rfl
  · rfl

theorem setQueue_reach (s : State) (c : BundleClass) (l : List Descriptor) : MoveReach s (s.setQueue c l) := by
  cases c <;> rfl

/-- A move touches only what its reach names. -/
theorem moveHead_reach (s : State) (cls : BundleClass) : MoveReach s (moveHead s cls) := by
  unfold moveHead
  split
  · rfl
  · split
    · rfl
    · split
      · refine MoveReach.trans ?_ (slotBecameIdle_reach _)
        cases cls <;> rfl
      · rfl

/-- Removals from the Retention List touch only what their reach names. -/
theorem removeOldest_reach (k : Nat) (s : State) : RemovalReach s (removeOldest k s) := by
  induction k generalizing s with
  | zero => rfl
  | succ k ih =>
    unfold removeOldest
    split
    · rfl
    · rename_i e rest _
      dsimp only
      split
      · exact RemovalReach.trans (t := { s with retention := rest, releasedHold := some e.desc.chain }) rfl (ih _)
      · exact RemovalReach.trans (t := { s with retention := rest }) rfl ((giveBack_reach _ _).removal.trans (ih _))

theorem returnHold_reach (s : State) : RemovalReach s (returnHold s) := by
  unfold returnHold
  split
  · rfl
  · exact RemovalReach.trans (t := { s with releasedHold := none }) rfl (giveBack_reach _ _).removal

end Sys2Proof.Machine
end

