-- ==== Sys2Proof/Laws/Shared.lean ====
section
/-! SUPPORT. One lemma for each gate a command passes and for the shared operations that answer in one of two ways: when the gate is open, and what is then left. Beside them the Pacer's answers, the tick, the range checks and the sizes of the counter groups, spelled out. -/

namespace Sys2Proof.Machine

open Safety

/-! ### Gates -/

theorem live_of_working {s : State} (h : s.held = false) (f : State → State) : live s f = .next (f s) := by
  simp [live, h]

theorem live_of_held {s : State} (h : s.held = true) (f : State → State) : live s f = .next s := by
  simp [live, h]

/-- Whatever the effect is, a gated command answers a next state. -/
theorem live_next (s : State) (f : State → State) : ∃ t, live s f = .next t ∧ (t = s ∨ t = f s) := by
  unfold live
  split
  · exact ⟨s, rfl, .inl rfl⟩
  · exact ⟨f s, rfl, .inr rfl⟩

theorem received_of_receives {s : State} (h : Receives s) (f : State → State) : received s f = f s := by
  obtain ⟨_, hc, hl⟩ := h
  simp [received, hc, hl]

/-- A received frame is taken, counted in OFFLINE, or passes by. -/
theorem received_cases (s : State) (f : State → State) :
    received s f = s ∨ received s f = f s
      ∨ received s f = { s with trunk := { s.trunk with inOffline := bump s.trunk.inOffline } } := by
  unfold received
  split
  · exact .inl rfl
  · split
    · exact .inr (.inr rfl)
    · exact .inr (.inl rfl)

theorem controlRoom_of_le {s : State} (h : s.controlQueue.length ≤ 6) : s.controlRoom = true :=
  decide_eq_true (Nat.lt_succ_of_le h)

theorem cache_fresh {s : State} {id : Word16} (h : ∀ e ∈ s.replyCache, e.id ≠ id) :
    s.replyCache.find? (fun e => e.id == id) = none := by
  simpa [List.find?_eq_none] using h

/-! ### Requests -/

/-- An executed request that is answered at once: its command acts on the accepted state, and its reply is stored and placed. -/
theorem command_answered {s t : State} {id : Word16} {code : Byte} {run : State → Execution} {status : Status}
    {result : List Byte} (h : Executes s id) (hr : run (accepted s) = ⟨t, some (status, result), false⟩) :
    command s id code run = .next (replied t id code status result) := by
  have hfresh := cache_fresh h.fresh
  have hrun : run (accepted s) = run
      { s with
        mgmt := { s.mgmt with executed := bump s.mgmt.executed }
        replyCache := evictOldestDone s.replyCache } := rfl
  rw [hrun] at hr
  simp only [command, live_of_working h.receives.1, received_of_receives h.receives, takeRequest,
    controlRoom_of_le h.room, hfresh, Bool.not_true, Bool.false_eq_true, if_false, hr, Option.map_some]
  rfl

/-- An executed request whose reply comes later leaves an IN_PROGRESS entry and places nothing. -/
theorem command_deferred {s t : State} {id : Word16} {code : Byte} {run : State → Execution} (h : Executes s id)
    (hr : run (accepted s) = ⟨t, none, false⟩) :
    command s id code run = .next { t with replyCache := t.replyCache ++ [⟨id, code, none⟩] } := by
  have hfresh := cache_fresh h.fresh
  have hrun : run (accepted s) = run
      { s with
        mgmt := { s.mgmt with executed := bump s.mgmt.executed }
        replyCache := evictOldestDone s.replyCache } := rfl
  rw [hrun] at hr
  simp only [command, live_of_working h.receives.1, received_of_receives h.receives, takeRequest,
    controlRoom_of_le h.room, hfresh, Bool.not_true, Bool.false_eq_true, if_false, hr, Option.map_none]

/-! ### Closes -/

theorem closeSlot_opened {s : State} {n : SlotNo} {b : Bundle} {idle age : Option PartTime}
    (h : s.slots[n] = .opened b idle age) (cause : CloseCause) :
    closeSlot s n cause =
      { (s.setSlot n (.closed b cause (queueClassOf b cause))).setCloseOrder (queueClassOf b cause)
          (s.closeOrder (queueClassOf b cause) ++ [n]) with
        openOrder := s.openOrder.erase n
        causes := s.causes.countClose cause } := by
  unfold closeSlot
  rw [h]
  cases hc : queueClassOf b cause <;> simp only [hc] <;> rfl

theorem closeSlot_of_not_open {s : State} {n : SlotNo} (h : slotOpen s.slots[n] = false) (cause : CloseCause) :
    closeSlot s n cause = s := by
  unfold closeSlot
  split
  · rename_i hs
    rw [hs] at h
    exact absurd h (by simp [slotOpen])
  · rfl

/-! ### Block requests and the pool -/

/-- What a request answers depends on the free count alone; a refusal takes no block. -/
theorem grant_blocks (s : State) (k : Nat) :
    (grant s k).2 = if k ≤ s.freeList.length then some (s.freeList.take k) else none := by
  unfold grant
  split <;> rfl

/-- The pool's law says that Free List and holders together are a rearrangement of all 512 blocks. -/
theorem poolConserved_iff_perm (s : State) :
    PoolConserved s ↔ (s.freeList ++ heldBlocks s).Perm (List.finRange 512) := by
  rw [List.perm_iff_count]
  have h : ∀ b : BlockNo, (List.finRange 512).count b = 1 := fun b =>
    List.count_eq_one_of_mem (List.nodup_finRange 512) (List.mem_finRange b)
  exact ⟨fun hp b => by rw [hp b, h b], fun hp b => by rw [hp b, h b]⟩

/-! ### Range checks and counter groups -/

/-- The ranges of a match record (R30). -/
theorem matchInRange_iff (r : MatchRecord) :
    matchInRange r = true ↔ r.valid.toNat ≤ 1 ∧ (r.port.toNat ≤ 3 ∨ r.port = 0xFF#8)
      ∧ (1 ≤ r.nodeLow.toNat ∧ r.nodeLow.toNat ≤ 254) ∧ (1 ≤ r.nodeHigh.toNat ∧ r.nodeHigh.toNat ≤ 254)
      ∧ r.nodeLow.toNat ≤ r.nodeHigh.toNat ∧ (r.channel.toNat ≤ 15 ∨ r.channel = 0xFF#8)
      ∧ (r.action = 1 ∨ (r.action = 0 ∧ r.profile.toNat ≤ 31)) := by
  have byte : ∀ n : Nat, n < 256 → (r.action = BitVec.ofNat 8 n ↔ r.action.toNat = n) := fun n hn =>
    ⟨fun h => by rw [h, BitVec.toNat_ofNat, Nat.mod_eq_of_lt hn],
      fun h => BitVec.eq_of_toNat_eq (by rw [h, BitVec.toNat_ofNat, Nat.mod_eq_of_lt hn])⟩
  have zero : r.action = 0 ↔ r.action.toNat = 0 := byte 0 (by decide)
  have one : r.action = 1 ↔ r.action.toNat = 1 := byte 1 (by decide)
  have tail : (r.action.toNat ≤ 1 ∧ (r.action.toNat = 1 ∨ r.profile.toNat ≤ 31))
      ↔ (r.action.toNat = 1 ∨ (r.action.toNat = 0 ∧ r.profile.toNat ≤ 31)) := by omega
  simp only [matchInRange, Bool.and_eq_true, Bool.or_eq_true, decide_eq_true_eq, beq_iff_eq, zero, one, and_assoc]
  rw [tail]

/-- The ranges of a profile record (R33). -/
theorem profileInRange_iff (r : ProfileRecord) :
    profileInRange r = true ↔ r.valid.toNat ≤ 1 ∧ r.cls.toNat ≤ 1 ∧ 1 ≤ r.recordLimit.toNat
      ∧ r.recordLimit.toNat ≤ 64 ∧ 128 ≤ r.byteLimit.toNat ∧ r.byteLimit.toNat ≤ 2048
      ∧ (r.template.toNat ≤ 7 ∨ r.template = 0xFF#8) ∧ r.stamp.toNat ≤ 1 := by
  simp only [profileInRange, Bool.and_eq_true, Bool.or_eq_true, decide_eq_true_eq, beq_iff_eq, and_assoc]

/-- The ranges of a configuration record (R151). -/
theorem configInRange_iff (r : ConfigRecord) :
    configInRange r = true ↔ r.paceCount.toNat ≤ 15 ∧ 1 ≤ r.paceWindow.toNat ∧ r.paceWindow.toNat ≤ 1000
      ∧ 5 ≤ r.ackTimeout.toNat ∧ r.ackTimeout.toNat ≤ 2000 ∧ 1 ≤ r.retryLimit.toNat ∧ r.retryLimit.toNat ≤ 7
      ∧ r.missAction.toNat ≤ 1 ∧ r.defaultProfile.toNat ≤ 31 ∧ r.poolLowMark.toNat ≤ 511
      ∧ 1 ≤ r.expressRun.toNat ∧ r.expressRun.toNat ≤ 15 ∧ r.eventMask.toNat ≤ 511 := by
  simp only [configInRange, Bool.and_eq_true, decide_eq_true_eq, and_assoc, Nat.lt_succ_iff]

/-- The numbers of items of the counter groups (R171). -/
theorem groupItems_length (s : State) (g : CounterGroup) :
    (groupItems s g).length = match g with
      | .port _ => 10
      | .matches => 128
      | .classify => 7
      | .cause => 13
      | .pool => 3
      | .trunk => 15
      | .dispatch => 8
      | .mgmt => 4 := by
  cases g <;> first | rfl | exact Vector.length_toList

/-! ### Pacer and tick -/

/-- The Pacer's permission, in numbers (R88). -/
theorem permitted_iff (s : State) :
    s.permitted = true ↔ s.config.paceCount.toNat = 0 ∨ s.startHistory.length < s.config.paceCount.toNat := by
  have h : s.config.paceCount = 0 ↔ s.config.paceCount.toNat = 0 := BitVec.toNat_inj.symm
  rw [← h]
  simp [State.permitted]

/-- A release is due: the history is full, and the ageings that are due bring it below PACE_COUNT (R87). -/
theorem releaseDue_iff (s : State) :
    s.releaseDue = true ↔
      s.config.paceCount.toNat ≤ s.startHistory.length ∧ s.standingStarts.length < s.config.paceCount.toNat := by
  have h := permitted_iff s
  simp only [State.releaseDue, Bool.and_eq_true, Bool.not_eq_true', decide_eq_true_eq, ← Bool.not_eq_true, h]
  omega

theorem moveStraps_eq (s : State) :
    moveStraps s = { s with straps := s.strapChanges.headD s.straps, strapChanges := s.strapChanges.tail } := by
  rcases s with ⟨_, _, _, _ | ⟨_, _⟩⟩ <;> rfl

/-- All that a tick changes in a working part (R1, R100). -/
theorem tick_of_working {s : State} (h : s.held = false) :
    tick s = { s with
      partTime := s.partTime + 1
      straps := s.strapChanges.headD s.straps
      strapChanges := s.strapChanges.tail
      pending := dueExpiries { s with partTime := s.partTime + 1 } } := by
  unfold tick
  rw [moveStraps_eq]
  simp only [h]
  rfl

end Sys2Proof.Machine
end

