-- ==== Sys2Proof/Tests/Slice0.lean ====
section
/-! SUPPORT. Tests: terms the well-formedness check refuses, the frame checks and codings on values worked out from the spec, and, for each statement for the provers that has premises, a concrete state and operands that meet them. -/

namespace Sys2Proof.Tests

open Machine Safety

set_option Elab.async false

/-! ### Ill-formed terms -/

theorem test_wellFormed_refuses_dispatch_without_entries : (Instr.dispatch 0 []).wellFormed = false := by decide

theorem test_wellFormed_refuses_nine_entries :
    (Instr.dispatch 0 (List.replicate 9 ⟨0, 1, 0, []⟩)).wellFormed = false := by decide

theorem test_wellFormed_refuses_payload_of_121 :
    (Instr.dispatch 0 [⟨0, 1, 0, List.replicate 121 0⟩]).wellFormed = false := by decide +kernel

theorem test_wellFormed_takes_eight_payloads_of_120 :
    (Instr.dispatch 0 (List.replicate 8 ⟨0, 1, 0, List.replicate 120 0⟩)).wellFormed = true := by decide +kernel

theorem test_wellFormed_refuses_template_of_another_length : (Instr.writeTemplate 0 0 2 [1]).wellFormed = false := by
  decide

theorem test_wellFormed_refuses_known_code_as_unknown : (Instr.unknownCommand 0 0x3F []).wellFormed = false := by
  decide

theorem test_wellFormed_refuses_params_of_2094 :
    (Instr.unknownCommand 0 0x40 (List.replicate 2094 0)).wellFormed = false := by decide +kernel

/-! ### Frame checks and codings -/

/-- The ASCII digits 1 to 9. -/
def digits : List Byte := [0x31, 0x32, 0x33, 0x34, 0x35, 0x36, 0x37, 0x38, 0x39]

theorem test_crc16_of_digits : crc16 digits = 0x29B1 := by decide +kernel

theorem test_crc32_of_digits : crc32 digits = 0xCBF43926 := by decide +kernel

theorem test_sync_frame_layout :
    (Instr.sync.frame 5).map (List.take 4) = some [0x81, 0x05, 0x00, 0x08] := by decide +kernel

theorem test_dispatch_frame_layout :
    (Instr.dispatch 0x1234 [⟨2, 7, 0x35, [0xAA, 0xBB]⟩]).kindAndBody
      = some (0x85, [0x12, 0x34, 0x01, 0x02, 0x07, 0x35, 0x02, 0xAA, 0xBB]) := by decide +kernel

theorem test_quiesce_frame_layout :
    (Instr.quiesce 0x0102 60000).kindAndBody = some (0x84, [0x01, 0x02, 0x21, 0xEA, 0x60]) := by decide +kernel

theorem test_acknowledgement_body_parses : parseBody 0x82 [0xFF, 0xFE] = some (.bundleAck 0xFFFE) := by decide

theorem test_short_request_breaks_length_rule : parseBody 0x84 [0x00, 0x01] = none := by decide

theorem test_entry_past_the_end_breaks_length_rule : parseBody 0x85 [0, 0, 1, 0, 1, 0, 3, 0xAA] = none := by decide

theorem test_sequence_comparison_boundaries :
    seqCase 0xFFFF 0xFFFF = .equal ∧ seqCase 0xFFFF 0x0000 = .ahead ∧ seqCase 0 32767 = .ahead
      ∧ seqCase 0 32768 = .behind := by decide

theorem test_reached_wraps :
    reached 0 0xFFFFFFFF = true ∧ reached 5 5 = true ∧ reached 0xFFFFFFFF 0 = false := by decide

theorem test_stamp_saturates :
    stampOf 65535 0 = 65535 ∧ stampOf 65536 0 = 65535 ∧ stampOf 3 0xFFFFFFFF = 4 := by decide

theorem test_bundle_header :
    (BundleTx.header ⟨⟨3, 0x0102, true, 4, 5, 0x0607, 0x08090A0B, .urgent, .express, [], 0⟩, 0x0D0E, 2, true⟩)
      = [0x0D, 0x0E, 0x01, 0x02, 0x03, 0x84, 0x05, 0x02, 0x04, 0x03, 0x06, 0x07, 0x08, 0x09, 0x0A, 0x0B] := by
  decide

/-! ### States the premises are shown on -/

/-- After reset, with carrier, link UP, in RUN. -/
def upState : State := { State.reset with carrier := true, link := .up, opState := .run }

/-- An open bundle of profile 3 with one record of 8 bytes in block 0. -/
def openBundle : Bundle := ⟨⟨3, 0x0102, .express, 2, 132, 10, 20, false, 0⟩, 1, 8, 0, [0], 8⟩

/-- A closed bundle of profile 4 with one record that fills block 1. -/
def closedBundle : Bundle := ⟨⟨4, 0x0203, .bulk, 64, 2048, 0, 0, true, 2⟩, 1, 126, 0, [1], 128⟩

/-- A descriptor whose chain is block 2. -/
def sentDesc : Descriptor := ⟨5, 0x0304, false, 0, 1, 4, 0, .flush, .bulk, [2], 4⟩

/-- A profile with a template of 32 bytes and stamps. -/
def stampedProfile : Profile := ⟨true, 7, .bulk, 64, 2048, 0, 0, some 1, true⟩

/-- A port in HUNT, enabled, with nothing received. -/
def huntPort : Port := { Port.reset with enabled := true, rx := .hunt }

/-- A field record with a payload of `n` zero bytes. -/
def recordOfLength (n : Nat) : FieldRecord := ⟨9, 0x20, List.replicate n 0⟩

/-- A taken record of `n` payload bytes. -/
def takenOfLength (n : Nat) : TakenRecord := ⟨0, recordOfLength n⟩

/-- Working: slot 0 OPEN, slot 1 CLOSED, one bundle retained under the last sequence before the wrap, one record waiting at port 0, one event and one reply waiting. -/
def busy : State :=
  { upState with
    ports := upState.ports.set 0 { huntPort with fifo := [recordOfLength 4] }
    slots := (upState.slots.set 0 (.opened openBundle (some 10) (some 20))).set 1 (.closed closedBundle .flush .bulk)
    profiles := (upState.profiles.set 3 ⟨true, 0x0102, .express, 2, 132, 10, 20, none, false⟩).set 6 stampedProfile
    templates := upState.templates.set 1 (List.replicate 32 0x55)
    openOrder := [0]
    closeBulk := [1]
    blockMem := [(0, 9), (1, 2)]
    freeList := allBlocks.drop 3
    minFree := 509
    retention := [⟨sentDesc, 0xFFFF, 1, true⟩]
    ackTimer := some 60
    replyCache := [⟨1, 0x22, some ⟨1, 0x22, .ok, []⟩⟩]
    controlQueue := [⟨.mgmtReply ⟨1, 0x22, .ok, []⟩, false⟩]
    eventQueue := [⟨.poolExhausted, 0xFFFF, 0⟩]
    pending := [.classifierTake] }

/-- Draining: slot 1 CLOSED, the QUIESCE of id 7 IN_PROGRESS, a record held. -/
def draining : State :=
  { busy with
    slots := busy.slots.set 0 .idle
    openOrder := []
    hold := some ⟨takenOfLength 4, 3⟩
    opState := .draining
    drainTimer := some 100
    replyCache := [⟨1, 0x22, some ⟨1, 0x22, .ok, []⟩⟩, ⟨7, 0x21, none⟩]
    pending := [] }

/-- Every slot in use: slot 0 OPEN, slot 1 evicted for a held record, the others CLOSED. -/
def crowded : State :=
  { upState with
    slots := (Vector.replicate 16 (.closed closedBundle .flush .bulk)).set 0 (.opened openBundle none none)
    profiles := busy.profiles
    openOrder := [0]
    closeBulk := [1, 2, 3, 4, 5, 6, 7, 8, 9, 10, 11, 12, 13, 14, 15] }

/-- Two bundles retained, the pointer at the oldest. -/
def resending : State :=
  { upState with
    retention := [⟨sentDesc, 5, 2, true⟩, ⟨sentDesc, 6, 1, true⟩]
    retransmitPtr := some 5
    nextSeq := 7 }

/-- The bundle of sequence 5 is being retransmitted. -/
def sending : State :=
  { resending with retransmitPtr := some 6, tx := some (.bundle ⟨sentDesc, 5, 2, true⟩) }

/-- A port's receiver at a place of the frame, the Intake FIFO 512 - k bytes used by complete records. -/
def filledPort (k : Nat) (rx : RxState) (bytes : List Byte) : Port :=
  { huntPort with
    rx := rx
    byteGapRunning := true
    headerCount := min bytes.length 3
    fifo := List.replicate 4 (recordOfLength 120) ++ [recordOfLength (17 - k)]
    tail := some bytes }

/-- `s` with port 0 replaced. -/
def withPort (port : Port) : State := { upState with ports := upState.ports.set 0 port }

/-- A record to send. -/
def txRecord : PortTxRecord := ⟨254, 5, true, false, true, List.replicate 120 1, 3, 0⟩

/-- The state a command leaves; used only where the command answers a next state. -/
def after (c : Instr) (s : State) : State :=
  match exec c s with
  | .next t => t
  | _ => s

/-! ### Laws that every step keeps: the premises hold of working states -/

theorem test_premises_StepKeepsMemory : busy.blockMem.wf = true := by decide

theorem test_premises_StepConservesBlocks : PoolConserved busy := by
  rw [poolConserved_iff_perm]
  decide +kernel

/-- The Slot Table's law from one decidable check. -/
theorem slotTableSound_of {s : State}
    (lists : s.openOrder.Nodup ∧ s.closeExpress.Nodup ∧ s.closeBulk.Nodup)
    (slots : ∀ n : SlotNo, (n ∈ s.openOrder ↔ slotOpen s.slots[n] = true)
      ∧ (n ∈ s.closeExpress ↔ slotClosedFor .express s.slots[n] = true)
      ∧ (n ∈ s.closeBulk ↔ slotClosedFor .bulk s.slots[n] = true))
    (one : ∀ n m : SlotNo, (openProfile s.slots[n]).isSome = true → openProfile s.slots[n] = openProfile s.slots[m] →
      n = m)
    (states : (s.openOrder ≠ [] → s.opState = .run)
      ∧ (∀ n, s.evictionMark = some n → slotEvicted s.slots[n] = true ∧ s.hold.isSome = true)
      ∧ (s.opState = .draining → s.allIdle = false)) : SlotTableSound s where
  openOrder_nodup := lists.1
  openOrder_iff := fun n => (slots n).1
  closeOrder_nodup
    | .express => lists.2.1
    | .bulk => lists.2.2
  closeOrder_iff
    | .express => fun n => (slots n).2.1
    | .bulk => fun n => (slots n).2.2
  one_open := fun n m _ hn hm => one n m (Option.isSome_of_eq_some hn) (hn.trans hm.symm)
  open_in_run := states.1
  mark_evicted := states.2.1
  drain_waits := states.2.2

theorem test_premises_StepKeepsSlotTable : SlotTableSound busy :=
  slotTableSound_of (by decide) (by decide +kernel) (by decide +kernel) (by decide)

/-- The law says nothing of the Free List and the Control Queue, and of the hold stage only while a mark is set. -/
theorem slotTable_with {s : State} (h : SlotTableSound s) (mark : s.evictionMark = none) (free : List BlockNo)
    (queue : List ControlEntry) (hold : Option Held) :
    SlotTableSound { s with freeList := free, controlQueue := queue, hold := hold } where
  openOrder_nodup := h.openOrder_nodup
  openOrder_iff := h.openOrder_iff
  closeOrder_nodup
    | .express => h.closeOrder_nodup .express
    | .bulk => h.closeOrder_nodup .bulk
  closeOrder_iff
    | .express => h.closeOrder_iff .express
    | .bulk => h.closeOrder_iff .bulk
  one_open := h.one_open
  open_in_run := h.open_in_run
  mark_evicted := fun _ hn => absurd (mark.symm.trans hn) nofun
  drain_waits := h.drain_waits

theorem test_premises_SlotTable_draining : SlotTableSound draining :=
  slotTableSound_of (by decide) (by decide +kernel) (by decide +kernel) (by decide +kernel)

theorem test_premises_SlotTable_crowded : SlotTableSound crowded :=
  slotTableSound_of (by decide +kernel) (by decide +kernel) (by decide +kernel) (by decide)

/-- A port in HUNT with `fifo` in its Intake FIFO and the maximum `m` is sound. -/
theorem huntPort_sound {port : Port} {fifo : List FieldRecord} {m : Byte}
    (h : port = { huntPort with fifo := fifo, maxLen := m })
    (hf : (fifo.map FieldRecord.size).sum ≤ 512 ∧ (∀ r ∈ fifo, r.payload.length ≤ 120) ∧ m.toNat ≤ 120) :
    PortSound port := by
  subst h
  exact
    { maxLen_le := hf.2.2
      off_iff := (by decide : huntPort.rx = .off ↔ huntPort.enabled = false)
      receiver := rfl
      fifo_fits := hf.1
      fifo_payloads := hf.2.1
      queue_places := (by decide : huntPort.txQueue.length ≤ 8)
      idle_empty := fun _ => rfl
      disabled_idle := fun _ => rfl }

theorem resetPort_sound : PortSound Port.reset where
  maxLen_le := by decide
  off_iff := by decide
  receiver := rfl
  fifo_fits := by decide
  fifo_payloads := nofun
  queue_places := by decide
  idle_empty := fun _ => rfl
  disabled_idle := fun _ => rfl

theorem test_premises_StepKeepsPorts : PortsSound busy where
  ports
    | 0 => huntPort_sound (m := 120) rfl (by decide)
    | 1 => resetPort_sound
    | 2 => resetPort_sound
    | 3 => resetPort_sound
  held := by decide

theorem test_premises_StepKeepsTables : TablesInRange busy where
  active := by unfold MatchEntryInRange; decide +kernel
  shadow := by unfold MatchEntryInRange; decide +kernel
  profiles := by unfold ProfileInRange; decide +kernel
  templates := by decide +kernel
  config := ⟨by decide, by decide, by decide, by decide, by decide, by decide⟩

/-- The law of a bundle from one decidable check. -/
theorem bundleSound_of {b : Bundle}
    (limits : b.snapshot.recordLimit.toNat ≤ 64 ∧ 128 ≤ b.snapshot.byteLimit.toNat ∧ b.snapshot.byteLimit.toNat ≤ 2048
      ∧ b.snapshot.templateLength ≤ 32)
    (counts : 1 ≤ b.recordCount ∧ b.recordCount ≤ b.snapshot.recordLimit.toNat
      ∧ b.bodyBytes ≤ b.snapshot.byteLimit.toNat)
    (chain : ChainFits b.contentLength b.chain b.lastBytes) : BundleSound b where
  recordLimit_le := limits.1
  byteLimit_ge := limits.2.1
  byteLimit_le := limits.2.2.1
  template_le := limits.2.2.2
  one_record := counts.1
  records_le := counts.2.1
  bytes_le := counts.2.2
  chain := chain

theorem openBundle_sound : BundleSound openBundle :=
  bundleSound_of (by decide) (by decide) (by unfold ChainFits; decide)

theorem closedBundle_sound : BundleSound closedBundle :=
  bundleSound_of (by decide) (by decide) (by unfold ChainFits; decide)

/-- `sentDesc`, with any chain of one block and in any class, is sound. -/
theorem sentDesc_sound (b : BlockNo) (cls : BundleClass) :
    DescriptorSound { sentDesc with chain := [b], queueClass := cls } where
  template_le := (by decide : sentDesc.templateLength ≤ 32)
  one_record := (by decide : 1 ≤ sentDesc.recordCount)
  records_le := (by decide : sentDesc.recordCount ≤ 64)
  bytes_le := (by decide : sentDesc.bodyBytes ≤ 2048)
  chain := by unfold ChainFits; exact ⟨rfl, (by decide : 1 ≤ 4 ∧ 4 ≤ 128)⟩

theorem slotSound_of_idle {slot : Slot} (h : slot = .idle) : SlotSound slot := by subst h; trivial

theorem test_premises_StepKeepsBundlesWithinLimits : BundlesSound busy where
  slots := fun n =>
    if h0 : n = 0 then by subst h0; exact ⟨openBundle_sound, by decide⟩
    else if h1 : n = 1 then by subst h1; exact closedBundle_sound
    else slotSound_of_idle ((by decide : ∀ n : SlotNo, n ≠ 0 → n ≠ 1 → busy.slots[n] = .idle) n h0 h1)
  express := fun d hd => absurd hd (List.not_mem_nil)
  bulk := fun d hd => absurd hd (List.not_mem_nil)
  retained := fun e he => by
    rw [show e = ⟨sentDesc, 0xFFFF, 1, true⟩ by simpa [busy] using he]
    exact sentDesc_sound 2 .bulk

theorem test_premises_StepKeepsEmissionBounds : EmissionSound busy := ⟨by decide, by decide, by decide, by decide⟩

theorem retentionSound_of {s : State} {l : List Retained} (h : s.retention = l) (hl : l.length ≤ 8)
    (hc : ∀ i : Fin l.length, l[i].seq + BitVec.ofNat 16 (l.length - i) = s.nextSeq)
    (hr : ∀ e ∈ l, e.retry ≤ 7) (hf : l.Pairwise fun older newer => newer.retry ≤ older.retry)
    (hp : ∀ p, s.retransmitPtr = some p → ∃ i, PointsAt l p i)
    (ht : s.ackTimer.isSome = true → s.link = .up ∧ l ≠ []) (ho : s.link ≠ .offline) : RetentionSound s := by
  subst h
  exact
    { places := hl
      consecutive := fun i e he => by
        obtain ⟨hi, rfl⟩ := List.getElem?_eq_some_iff.mp he
        exact hc ⟨i, hi⟩
      retry_le := hr
      retry_falls := hf
      pointer := hp
      timer_up := ht
      offline_clear := fun h => absurd h ho }

theorem test_premises_StepKeepsRetentionList : RetentionSound busy ∧ SendingSound busy :=
  ⟨retentionSound_of rfl (by decide) (by decide) (by decide) (by decide) (fun p hp => absurd hp nofun) (by decide)
      (by decide),
    ⟨by simp [busy, upState, State.reset], by simp [busy, upState, State.reset]⟩⟩

theorem test_premises_RetransmissionStarts_sound : RetentionSound resending :=
  retentionSound_of rfl (by decide) (by decide) (by decide) (by decide)
    (fun p hp => ⟨0, _, rfl, by simpa [resending] using hp, fun j hj => by omega⟩) (by decide) (by decide)

theorem test_premises_AcknowledgementReleasesBundles_sound :
    Receives sending ∧ RetentionSound sending ∧ SendingSound sending :=
  ⟨⟨by decide, by decide, by decide⟩,
    retentionSound_of rfl (by decide) (by decide) (by decide) (by decide)
      (fun p hp => ⟨1, ⟨sentDesc, 6, 1, true⟩, rfl, by simpa [sending] using hp, fun j hj e he => by
        obtain rfl : j = 0 := by omega
        obtain rfl : (⟨sentDesc, 5, 2, true⟩ : Retained) = e := by simpa [sending, resending] using he
        decide⟩) (by decide) (by decide),
    ⟨fun f hf _ => ⟨⟨sentDesc, 5, 2, true⟩, by decide, by
        obtain rfl : (⟨sentDesc, 5, 2, true⟩ : BundleTx) = f := by simpa [sending] using hf
        decide⟩, by simp [sending, resending, upState, State.reset]⟩⟩

theorem test_premises_StepKeepsLink : LinkSound busy ∧ RetentionSound busy :=
  ⟨⟨by decide, fun h => absurd h (by decide), by decide, by decide, by decide, by decide, by decide⟩,
    test_premises_StepKeepsRetentionList.1⟩

theorem cacheSound_of {s : State} (h4 : s.replyCache.length ≤ 4) (hd : (s.replyCache.map CacheEntry.id).Nodup)
    (hp : s.replyCache.countP inProgress = if s.opState = .draining then 1 else 0)
    (hs : ∀ e ∈ s.replyCache, e.reply.all (fun r => r.id == e.id && r.code == e.code) = true)
    (ht : s.drainTimer.isSome = true ↔ s.opState = .draining) : CacheSound s :=
  ⟨h4, hd, hp, fun e he r hr => by simpa [hr] using hs e he, ht⟩

theorem test_premises_StepKeepsReplyCache : CacheSound busy ∧ CacheSound draining :=
  ⟨cacheSound_of (by decide) (by decide) (by decide) (by decide) (by decide),
    cacheSound_of (by decide) (by decide) (by decide) (by decide) (by decide)⟩

theorem eventsSound_of {s : State} (h : s.eventQueue.length ≤ 16)
    (hn : ∀ i : Fin s.eventQueue.length,
      s.eventQueue[i].number + BitVec.ofNat 16 (s.eventQueue.length - i) = s.eventNumber) : EventsSound s :=
  ⟨h, fun i r hr => by
    obtain ⟨hi, rfl⟩ := List.getElem?_eq_some_iff.mp hr
    exact hn ⟨i, hi⟩⟩

theorem test_premises_StepKeepsEvents : EventsSound busy := eventsSound_of (by decide) (by decide)

/-- The state a step leaves; used only where the step answers a next state. -/
def afterStep (s : State) : State :=
  match step s with
  | .next t => t
  | _ => s

theorem step_after {s t : State} (h : step s = .next t) : step s = .next (afterStep s) := by simp [afterStep, h]

/-- `busy` with a bundle queued, and one in transmission that has been acknowledged. -/
def settled : State :=
  { busy with
    expressQueue := [{ sentDesc with chain := [3], queueClass := .express }]
    freeList := allBlocks.drop 5
    releasedHold := some [4]
    tx := some (.bundle ⟨{ sentDesc with chain := [4] }, 0xFFFE, 1, true⟩) }

/-- `busy` with its retained bundle in transmission, and the acknowledgement of it to come. -/
def acknowledged : State :=
  { busy with ackTimer := none, tx := some (.bundle ⟨sentDesc, 0xFFFF, 1, true⟩), pending := [.bundleAck 0xFFFF] }

/-- What the laws of bundles, tables, ports and the Retention List say nothing of. -/
theorem laws_with {s : State} (h : BundlesSound s ∧ TablesInRange s ∧ PortsSound s ∧ RetentionSound s)
    {express : List Descriptor} (sound : ∀ d ∈ express, DescriptorSound d) {timer : Option PartTime}
    (stopped : timer.isSome = true → s.ackTimer.isSome = true) (free : List BlockNo) (released : Option (List BlockNo))
    (tx : Option Transmission) (pending : List Instr) :
    let t : State :=
      { s with
        expressQueue := express, freeList := free, releasedHold := released, tx := tx, ackTimer := timer
        pending := pending }
    BundlesSound t ∧ TablesInRange t ∧ PortsSound t ∧ RetentionSound t :=
  ⟨{ slots := h.1.slots
     express := sound
     bulk := h.1.bulk
     retained := h.1.retained }, ⟨h.2.1.active, h.2.1.shadow, h.2.1.profiles, h.2.1.templates, h.2.1.config⟩,
    ⟨h.2.2.1.ports, h.2.2.1.held⟩,
    { places := h.2.2.2.places
      consecutive := h.2.2.2.consecutive
      retry_le := h.2.2.2.retry_le
      retry_falls := h.2.2.2.retry_falls
      pointer := h.2.2.2.pointer
      timer_up := fun ht => h.2.2.2.timer_up (stopped ht)
      offline_clear := h.2.2.2.offline_clear }⟩

theorem busy_laws : BundlesSound busy ∧ TablesInRange busy ∧ PortsSound busy ∧ RetentionSound busy :=
  ⟨test_premises_StepKeepsBundlesWithinLimits, test_premises_StepKeepsTables, test_premises_StepKeepsPorts,
    test_premises_StepKeepsRetentionList.1⟩

theorem test_premises_ClosedContentIsNeverWritten_settled :
    PoolConserved settled ∧ BundlesSound settled ∧ TablesInRange settled ∧ PortsSound settled
      ∧ RetentionSound settled := by
  refine ⟨by rw [poolConserved_iff_perm]; decide +kernel, laws_with busy_laws (fun d hd => ?_) id _ _ _ _⟩
  obtain rfl := List.mem_singleton.mp hd
  exact sentDesc_sound 3 .express

theorem test_premises_ClosedContentIsNeverWritten_acknowledged :
    PoolConserved acknowledged ∧ BundlesSound acknowledged ∧ TablesInRange acknowledged ∧ PortsSound acknowledged
      ∧ RetentionSound acknowledged :=
  ⟨by rw [poolConserved_iff_perm]; decide +kernel, laws_with busy_laws (fun _ hd => absurd hd List.not_mem_nil)
      (timer := none) (fun h => absurd h Bool.false_ne_true) _ _ _ _⟩

/-- The steps of these states: what stands closed before stands closed after. -/
theorem test_premises_ClosedContentIsNeverWritten :
    (step settled = .next (afterStep settled) ∧ step acknowledged = .next (afterStep acknowledged))
    ∧ (let t := afterStep settled;
      t.classify.taken = 1 ∧ t.retention = settled.retention
        ∧ settled.releasedHold = some [4] ∧ t.releasedHold = some [4] ∧ t.queue .express = settled.queue .express
        ∧ settled.slots[(1 : SlotNo)] = .closed closedBundle .flush .bulk
        ∧ t.slots[(1 : SlotNo)] = .closed closedBundle .flush .bulk)
    ∧ (afterStep acknowledged).releasedHold = some sentDesc.chain :=
  ⟨⟨step_after rfl, step_after rfl⟩, by decide +kernel⟩

/-! ### Steps and resets: the premises, clause by clause -/

/-- Every timer of the part at its deadline on the tick that wraps part time, the Start History full, and the straps about to change. -/
def timers : State :=
  { upState with
    partTime := 0xFFFFFFFF
    slots := upState.slots.set 15 (.opened openBundle (some 0) (some 0))
    config := { upState.config with paceCount := 2 }
    startHistory := [0xFFFFFF9C, 0xFFFFFF9D]
    straps := 5
    strapChanges := [9, 5]
    unitNumber := 5
    ackTimer := some 0
    helloTimer := .waiting 0
    drainTimer := some 0
    pendingReset := some ⟨.full, 0⟩ }

theorem test_premises_IdleStepCountsOneTick :
    timers.pending = [] ∧ timers.held = false
      ∧ (afterStep timers).pending = [.idleTimeout 15, .ageTimeout 15, .startHistoryAgeing, .retryCheckAtLimit,
        .retransmissionStart, .firstTransmissionStart, .ackTimerExpiry, .helloTimerExpiry, .drainTimerExpiry,
        .resetDeadline] := by decide +kernel

/-- A change on the strap pins leaves the unit number; a FULL reset after it samples the new level, a TRAFFIC reset does not (R100). -/
theorem test_straps_change_between_samplings :
    (let t := afterStep timers;
      t.straps = 9 ∧ t.strapChanges = [5] ∧ t.unitNumber = 5
        ∧ (after .resetDeadline t).unitNumber = 9
        ∧ (after .resetDeadline { t with pendingReset := some ⟨.traffic, 0⟩ }).unitNumber = 5) := by decide +kernel

/-- The part while RESET_N is low. -/
def heldState : State := { upState with resetNLow := true, link := .offline, opState := .quiesced }

theorem test_premises_EveryCommandAnswersNext :
    heldState.held = true ∧ { heldState with resetNLow := false, supplyGood := false }.held = true
      ∧ heldState.pending = [] ∧ Instr.sync ≠ .powerOn ∧ Instr.sync ≠ .resetNAsserted
      ∧ (∀ straps, Instr.sync ≠ .pinResetComplete straps) ∧ Instr.sync ≠ .carrierGain ∧ Instr.sync ≠ .carrierLoss := by
  decide +kernel

theorem test_premises_PinResetRestoresEveryBlock : heldState.held = true ∧ upState.held = false := by decide +kernel

/-- The reply a RESET_PART leaves. -/
def awaitedReply : ControlEntry := ⟨.mgmtReply ⟨2, 0x3F, .ok, []⟩, true⟩

/-- A FULL reset pending with its deadline now, its reply waiting. -/
def resetPending : State := { upState with pendingReset := some ⟨.full, 0⟩, controlQueue := [awaitedReply] }

/-- The reply has started. -/
def resetReplyStarted : State := { resetPending with controlQueue := [], tx := some (.control awaitedReply) }

theorem test_premises_StepKeepsPendingReset :
    PendingResetSound busy ∧ PendingResetSound resetPending ∧ PendingResetSound resetReplyStarted :=
  ⟨{ one := by decide, waits := by simp [busy], started := nofun },
    { one := by decide, waits := by simp [resetPending, awaitedReply], started := nofun },
    { one := by decide
      waits := nofun
      started := fun e he _ => by
        obtain rfl : awaitedReply = e := by simpa [resetReplyStarted] using he
        exact ⟨_, rfl⟩ }⟩

theorem test_premises_PendingResetIsPerformed :
    (resetPending.held = false ∧ resetPending.pendingReset = some ⟨.full, 0⟩ ∧ resetPending.awaitedStarted = false
      ∧ reached resetPending.partTime 0 = true ∧ reached resetPending.partTime 1 = false)
    ∧ (resetReplyStarted.held = false ∧ resetReplyStarted.pendingReset = some ⟨.full, 0⟩
      ∧ resetReplyStarted.awaitedStarted = true ∧ resetReplyStarted.tx = some (.control awaitedReply)
      ∧ awaitedReply.awaited = true ∧ resetReplyStarted.carrier = true) := by decide +kernel

/-- A bundle queued in each class. -/
def queued : State := { upState with expressQueue := [sentDesc], bulkQueue := [sentDesc] }

/-- Configuration bytes that turn pacing on and leave the other items at their defaults. -/
def pacedConfig : ConfigRecord := ⟨15, 1000, 50, 3, 0, 0, 64, 4, 0x1FF⟩

theorem test_premises_OnlyTheirCommandsChangeThem :
    (let s : State := { upState with opState := .quiesced };
      let c := Instr.setConfig 3 pacedConfig
      exec c s = .next (after c s) ∧ performsReset c s = false ∧ (after c s).config ≠ s.config)
    ∧ (let s : State := { upState with shadow := upState.shadow.set 127 ⟨true, none, 1, 254, none, .route 3⟩ };
      let c := Instr.commitMatch 3
      exec c s = .next (after c s) ∧ performsReset c s = false ∧ (after c s).active ≠ s.active)
    ∧ (let c := Instr.firstTransmissionStart
      exec c queued = .next (after c queued) ∧ performsReset c queued = false
        ∧ (after c queued).nextSeq ≠ queued.nextSeq ∧ (after c queued).expressRun ≠ queued.expressRun)
    ∧ (let c := Instr.dispatch 0 [⟨0, 1, 0, []⟩]
      exec c upState = .next (after c upState) ∧ performsReset c upState = false
        ∧ (after c upState).expectedDispatch ≠ upState.expectedDispatch) :=
  ⟨⟨rfl, rfl, by decide +kernel⟩, ⟨rfl, rfl, by decide +kernel⟩, ⟨rfl, rfl, by decide +kernel, by decide +kernel⟩,
    ⟨rfl, rfl, by decide +kernel⟩⟩

/-! ### Field ports -/

theorem test_premises_HuntTakesOnlySof :
    (withPort huntPort).held = false ∧ (withPort huntPort).ports[(0 : PortNo)].rx = .hunt := by decide +kernel

/-- The premises about a port that a state of these tests meets by its form. -/
theorem test_withPort_holds_the_port (port : Port) :
    (withPort port).held = false ∧ (withPort port).ports[(0 : PortNo)] = port := ⟨rfl, rfl⟩

theorem test_premises_FrameBytesAreCheckedAndWritten :
    (((filledPort 1 .header []).rx = .header ∧ (filledPort 1 .header []).headerCount = 0
      ∧ (filledPort 1 .header []).tail = some [] ∧ (filledPort 1 .header []).usedBytes = 511
      ∧ (1#8 ≠ 0 ∧ 1#8 ≠ 255) ∧ (254#8 ≠ 0 ∧ 254#8 ≠ 255))
    ∧ ((filledPort 2 .header [254]).headerCount = 1 ∧ (filledPort 2 .header [254]).usedBytes = 511
      ∧ (0xF3#8).getLsbD 3 = false ∧ (0xF3#8).getLsbD 2 = false ∧ (8#8).getLsbD 3 = true ∧ (4#8).getLsbD 2 = true)
    ∧ ((filledPort 3 .header [254, 0]).headerCount = 2 ∧ (filledPort 3 .header [254, 0]).usedBytes = 511
      ∧ (120#8).toNat ≤ (filledPort 3 .header [254, 0]).maxLen.toNat
      ∧ (filledPort 3 .header [254, 0]).maxLen.toNat < (121#8).toNat)
    ∧ ((filledPort 4 .payload [9, 0, 1]).rx = .payload ∧ (filledPort 4 .payload [9, 0, 1]).usedBytes = 511
      ∧ (filledPort 4 .payload [9, 0, 1]).tail = some [9, 0, 1] ∧ 3 ≤ [9#8, 0, 1].length
      ∧ (filledPort 4 .payload [9, 0, 1]).payloadCount + 1 = (filledPort 4 .payload [9, 0, 1]).declared)
    ∧ ((filledPort 3 .check [9, 0, 0]).rx = .check ∧ (filledPort 3 .check [9, 0, 0]).checkHigh = none
      ∧ (0#8 ++ 0#8 : Word16) ≠ crc16 [9, 0, 0]))
    ∧ (∃ hi v : Byte, hi ++ v = crc16 [9, 0, 0]) :=
  ⟨by decide +kernel, (crc16 [9, 0, 0]).extractLsb' 8 8, (crc16 [9, 0, 0]).extractLsb' 0 8, by decide +kernel⟩

theorem test_premises_FullFifoEndsReception :
    (filledPort 0 .header []).usedBytes = 512 ∧ (filledPort 0 .header []).headerCount = 0
      ∧ (filledPort 1 .header [9]).usedBytes = 512 ∧ (filledPort 1 .header [9]).headerCount = 1
      ∧ (filledPort 2 .header [9, 0]).usedBytes = 512 ∧ (filledPort 2 .header [9, 0]).headerCount = 2
      ∧ (filledPort 3 .payload [9, 0, 1]).usedBytes = 512 ∧ (filledPort 3 .payload [9, 0, 1]).rx = .payload
      ∧ (huntPort.startDiscard 1).rx = .discard ∧ (huntPort.startDiscard 1).remaining = 1
      ∧ (huntPort.startDiscard 257).remaining = 257 ∧ Port.reset.rx = .off := by decide +kernel

theorem test_premises_FramingEndsReception :
    (filledPort 0 .header []).rx = .header ∧ (filledPort 3 .payload [9, 0, 1]).rx = .payload
      ∧ (filledPort 3 .check [9, 0, 0]).rx = .check ∧ (filledPort 0 .header []).byteGapRunning = true
      ∧ (huntPort.startDiscard 2).rx = .discard ∧ (huntPort.startDiscard 2).byteGapRunning = true
      ∧ huntPort.rx = .hunt ∧ Port.reset.rx = .off ∧ huntPort.byteGapRunning = false := by decide +kernel

/-- A port in HUNT whose FIFO has room for exactly one more record of 120 payload bytes. -/
def roomForOne : Port := { huntPort with fifo := List.replicate 3 (recordOfLength 120) ++ [recordOfLength 17] }

theorem test_premises_FieldFrameIsReceivedWhole :
    PortSound (withPort roomForOne).ports[(0 : PortNo)] ∧ (withPort roomForOne).pending = []
      ∧ (roomForOne.rx = .hunt ∧ 1 ≤ txRecord.node.toNat ∧ txRecord.node.toNat ≤ 254
        ∧ txRecord.payload.length ≤ roomForOne.maxLen.toNat
        ∧ roomForOne.usedBytes + 3 + txRecord.payload.length = 512) :=
  ⟨huntPort_sound (m := 120) rfl (by decide +kernel), rfl, by decide +kernel⟩

theorem test_premises_FieldFrameCompletes :
    ({ huntPort with sending := some txRecord } : Port).sending = some txRecord ∧ txRecord.confirm = true
      ∧ huntPort.sending = none := by decide +kernel

/-! ### Classifier, placement, slots -/

/-- One record, at the port that the pointer comes to last. -/
def lastPort : State := { withPort { huntPort with fifo := [recordOfLength 4] } with roundRobin := 1 }

/-- `lastPort` with one match entry at the last index. -/
def matching (action : MatchAction) : State :=
  { lastPort with active := lastPort.active.set 127 ⟨true, some 0, 9, 9, some 2, action⟩ }

theorem test_premises_ClassifierTakesInTurn :
    (lastPort.held = false ∧ lastPort.opState = .run ∧ lastPort.hold = none
      ∧ (0 : PortNo).val = (lastPort.roundRobin.val + 3) % 4
      ∧ lastPort.ports[(0 : PortNo)].fifo = recordOfLength 4 :: []
      ∧ (∀ q : PortNo, ∀ j < 3, q.val = (lastPort.roundRobin.val + j) % 4 → lastPort.ports[q].fifo = []))
    ∧ (draining.opState ≠ .run ∧ draining.hold ≠ none ∧ ∀ p : PortNo, upState.ports[p].fifo = []) := by
  decide +kernel

/-- `crowded` with one record waiting at port 0, routed to the profile no slot is open for. -/
def crowdedPort : State :=
  { crowded with ports := lastPort.ports, roundRobin := 1, active := (matching (.route 6)).active }

/-- `lastPort` with misses sent to profile 31. -/
def defaulting : State :=
  { lastPort with config := { lastPort.config with missAction := .toDefault, defaultProfile := 31 } }

theorem test_premises_ClassifierOffersTheRecord :
    (crowdedPort.held = false ∧ crowdedPort.nextTake = some (0, recordOfLength 4, [])
      ∧ crowdedPort.lookup ⟨0, recordOfLength 4⟩ = some 127 ∧ crowdedPort.active[(127 : Fin 128)].action = .route 6
      ∧ (after .classifierTake crowdedPort).hold = some ⟨⟨0, recordOfLength 4⟩, 6⟩
      ∧ (after .classifierTake crowdedPort).classify.holdEntries = 1)
    ∧ (defaulting.nextTake = some (0, recordOfLength 4, []) ∧ defaulting.lookup ⟨0, recordOfLength 4⟩ = none
      ∧ defaulting.config.missAction = .toDefault ∧ (after .classifierTake defaulting).classify.routeInvalid = 1) := by
  decide +kernel

theorem test_premises_ClassifierHandlesRecord :
    (matching .drop).nextTake = some (0, recordOfLength 4, [])
      ∧ (matching .drop).lookup ⟨0, recordOfLength 4⟩ = some 127 ∧ (matching .drop).active[(127 : Fin 128)].action = .drop
      ∧ (matching (.route 31)).lookup ⟨0, recordOfLength 4⟩ = some 127
      ∧ (matching (.route 31)).active[(127 : Fin 128)].action = .route 31
      ∧ (matching (.route 31)).profiles[(31 : Fin 32)].valid = false
      ∧ lastPort.lookup ⟨0, recordOfLength 4⟩ = none ∧ lastPort.config.missAction = .drop := by decide +kernel

theorem exec_after {c : Instr} {s t : State} (h : exec c s = .next t) : exec c s = .next (after c s) := by
  simp [after, h]

theorem counts_small {c : ClassifyCounters} (h : c = ⟨1, 0, 1, 0, 0, 0, 0⟩) :
    (∀ x ∈ c.items, x.toNat < 4294967295) ∧ c.taken = 1 := by
  subst h
  refine ⟨fun x hx => ?_, rfl⟩
  rcases (by simpa [ClassifyCounters.items] using hx : x = 1 ∨ x = 0 ∨ x = 1 ∨ x = 0) with
    rfl | rfl | rfl | rfl <;> decide

theorem test_premises_EveryTakenRecordIsCountedOnce :
    (exec .classifierTake busy = .next (after .classifierTake busy) ∧ performsReset .classifierTake busy = false)
      ∧ (∀ id group port first count clear, Instr.classifierTake ≠ .readCounters id group port first count clear)
      ∧ ((∀ x ∈ (after .classifierTake busy).classify.items, x.toNat < 4294967295)
        ∧ (after .classifierTake busy).classify.taken = 1) :=
  ⟨⟨exec_after (live_of_working (s := busy) rfl classifierTake), rfl⟩, nofun, counts_small (by decide +kernel)⟩

/-- With the laws shown above for `busy`: an entry that ends the last block, and one that needs a block and reaches the byte limit. -/
theorem test_premises_PlacementAppendsToOpenSlot :
    busy.slots[(0 : SlotNo)] = .opened openBundle (some 10) (some 20)
      ∧ busy.profiles[openBundle.snapshot.profile].valid = true
      ∧ (takenOfLength 116).record.payload.length ≤ 120 ∧ entrySize false 116 = 128 - openBundle.lastBytes
      ∧ (takenOfLength 120).record.payload.length = 120
      ∧ openBundle.bodyBytes + entrySize false 120 = openBundle.snapshot.byteLimit.toNat
      ∧ 128 - openBundle.lastBytes < entrySize false 120 ∧ busy.freeList ≠ [] := by decide +kernel

theorem test_premises_PlacementOpensLowestIdleSlot :
    busy.profiles[(6 : Fin 32)] = stampedProfile ∧ stampedProfile.valid = true ∧ busy.openSlotOf 6 = none
      ∧ busy.slots[(2 : SlotNo)] = .idle ∧ (∀ m : SlotNo, m < 2 → busy.slots[m] ≠ .idle)
      ∧ (∀ i : Fin 8, busy.templates[i].length ≤ 32)
      ∧ busy.templates[(1 : Fin 8)].length + entrySize true 90 = 128
      ∧ busy.templates[(1 : Fin 8)].length + entrySize true 91 = 129 ∧ 2 ≤ busy.freeList.length := by decide +kernel

/-- `crowded` once the head of its Open Order List has been evicted for a held record. -/
def evicted : State := startEviction { crowded with hold := some ⟨takenOfLength 4, 6⟩ }

/-- `busy` with one byte more in slot 0: a record of 120 payload bytes does not fit. -/
def nearLimit : State :=
  { busy with slots := busy.slots.set 0 (.opened { openBundle with bodyBytes := 9, lastBytes := 9 } none none) }

theorem test_premises_PlacementClosesAtByteLimit :
    SlotTableSound nearLimit ∧ (nearLimit.profiles[(3 : Fin 32)].valid = true
      ∧ nearLimit.slots[(0 : SlotNo)] = .opened { openBundle with bodyBytes := 9, lastBytes := 9 } none none
      ∧ openBundle.snapshot.byteLimit.toNat < 9 + entrySize openBundle.snapshot.stamp 120
      ∧ (takenOfLength 120).record.payload.length = 120) :=
  ⟨slotTableSound_of (by decide) (by decide +kernel) (by decide +kernel) (by decide), by decide +kernel⟩

theorem test_premises_PlacementWaitsOrEvicts :
    (let s : State := { busy with freeList := [5] };
      s.openSlotOf 6 = none ∧ (∃ n : SlotNo, s.slots[n] = .idle)
        ∧ s.freeList.length < openNeed s s.profiles[(6 : Fin 32)] (takenOfLength 91))
    ∧ (let s : State := { busy with freeList := [] };
      s.slots[(0 : SlotNo)] = .opened openBundle (some 10) (some 20) ∧ s.freeList = []
        ∧ openBundle.bodyBytes + entrySize false 120 ≤ openBundle.snapshot.byteLimit.toNat
        ∧ 128 - openBundle.lastBytes < entrySize false 120)
    ∧ (crowded.profiles[(6 : Fin 32)].valid = true ∧ crowded.openSlotOf 6 = none
      ∧ (∀ n : SlotNo, crowded.slots[n] ≠ .idle) ∧ crowded.evictionMark = none ∧ crowded.openOrder = [0]
      ∧ crowded.slots[(0 : SlotNo)] = .opened openBundle none none)
    ∧ (evicted.profiles[(6 : Fin 32)].valid = true ∧ evicted.openSlotOf 6 = none
      ∧ (∀ n : SlotNo, evicted.slots[n] ≠ .idle) ∧ evicted.evictionMark ≠ none ∧ evicted.openOrder = []) := by
  decide +kernel

/-- The Slot Table's law on the states of the four cases above. -/
theorem test_premises_PlacementWaitsOrEvicts_sound :
    SlotTableSound { busy with freeList := [5] } ∧ SlotTableSound { busy with freeList := [] } ∧ SlotTableSound crowded
      ∧ SlotTableSound evicted :=
  have h := fun free => slotTable_with test_premises_StepKeepsSlotTable rfl free busy.controlQueue busy.hold
  ⟨h [5], h [], test_premises_SlotTable_crowded,
    slotTableSound_of (by decide +kernel) (by decide +kernel) (by decide +kernel) (by decide +kernel)⟩

theorem test_premises_InvalidProfileDropsRecord :
    let s : State := { upState with hold := some ⟨takenOfLength 4, 31⟩ }
    s.profiles[(31 : Fin 32)].valid = false ∧ s.opState = .run ∧ s.hold = some ⟨takenOfLength 4, 31⟩ := by
  decide +kernel

theorem test_premises_ExpiryClosesOpenSlot :
    busy.held = false ∧ busy.slots[(0 : SlotNo)] = .opened openBundle (some 10) (some 20)
      ∧ reached { busy with partTime := 10 }.partTime 10 = true ∧ reached { busy with partTime := 20 }.partTime 20 = true
      ∧ reached { busy with partTime := 9 }.partTime 10 = false ∧ reached { busy with partTime := 19 }.partTime 20 = false
      ∧ crowded.slots[(0 : SlotNo)] = .opened openBundle none none
      ∧ slotOpen busy.slots[(1 : SlotNo)] = false ∧ slotOpen busy.slots[(15 : SlotNo)] = false := by decide +kernel

/-- An Emission Queue of `n` descriptors. -/
def queueOf (n : Nat) : List Descriptor := List.replicate n sentDesc

/-- With the Reply Cache's law shown above for `draining`. -/
theorem test_premises_ClosedBundleMovesToItsQueue :
    (let s : State := { busy with bulkQueue := queueOf 15 };
      s.closeOrder .bulk = 1 :: [] ∧ s.slots[(1 : SlotNo)] = .closed closedBundle .flush .bulk
        ∧ (s.queue .bulk).length = 15 ∧ s.opState = .run ∧ s.hold = none)
    ∧ { busy with opState := .quiesced }.opState = .quiesced
    ∧ (draining.opState = .draining ∧ draining.closeOrder .bulk = 1 :: []
      ∧ draining.slots[(1 : SlotNo)] = .closed closedBundle .flush .bulk
      ∧ (∀ m : SlotNo, (draining.slots.set 1 .idle)[m] = .idle) ∧ ∃ m : SlotNo, (crowded.slots.set 1 .idle)[m] ≠ .idle)
    ∧ draining.replyCache = [⟨1, 0x22, some ⟨1, 0x22, .ok, []⟩⟩] ++ ⟨7, 0x21, none⟩ :: []
    ∧ busy.closeOrder .express = [] ∧ ({ busy with bulkQueue := queueOf 16 }.queue .bulk).length = 16
    ∧ (let s : State := { busy with hold := some ⟨takenOfLength 4, 3⟩ };
      s.opState = .run ∧ s.hold = some ⟨takenOfLength 4, 3⟩ ∧ (place s 3 (takenOfLength 4)).2 = .appended
        ∧ (place { crowded with hold := some ⟨takenOfLength 4, 6⟩ } 6 (takenOfLength 4)).2 = .wait)
    ∧ draining.opState ≠ .run := by decide +kernel

theorem test_premises_BlocksAreGrantedAndReturned :
    512 ≤ State.reset.freeList.length ∧ State.reset.freeList.length < 513
      ∧ State.reset.config.poolLowMark.toNat < [(1 : BlockNo)].length + 64 := by decide +kernel

theorem test_premises_RaisedEventIsMaskedQueuedOrLost :
    { State.reset.config with eventMask := 0x1FE#9 }.eventMask.getLsbD (Event.poolExhausted.code - 1) = true
      ∧ { State.reset.config with eventMask := 0x1FE#9 }.eventMask.getLsbD ((Event.poolLow 0).code - 1) = false
      ∧ State.reset.config.eventMask.getLsbD ((Event.drainDiscard 1 1).code - 1) = true
      ∧ (List.replicate 15 (⟨.poolExhausted, 0, 0⟩ : EventRecord)).length ≤ 15
      ∧ 16 ≤ (List.replicate 16 (⟨.poolExhausted, 0, 0⟩ : EventRecord)).length := by decide +kernel

/-! ### Emission Queues and trunk transmitter -/

/-- Seven bundles retained, pacing on with one start short of the limit. -/
def pacing : State :=
  { queued with
    partTime := 200
    config := { queued.config with paceCount := 2 }
    startHistory := [101]
    retention := List.replicate 7 ⟨sentDesc, 0, 0, false⟩ }

theorem test_premises_NewBundleIsChosenAndStarts :
    (upState.expressQueue = [] ∧ upState.bulkQueue = [] ∧ queued.expressQueue ≠ [] ∧ queued.bulkQueue ≠ []
      ∧ { queued with expressRun := 3 }.expressRun < queued.config.expressRun.toNat
      ∧ queued.config.expressRun.toNat ≤ { queued with expressRun := 4 }.expressRun)
    ∧ (pacing.held = false ∧ pacing.tx = none ∧ pacing.link = .up ∧ pacing.controlQueue = [] ∧ pacing.eventQueue = []
      ∧ pacing.retransmitPtr = none ∧ pacing.retention.length = 7 ∧ pacing.chosenClass = some .express
      ∧ pacing.queue .express = sentDesc :: [] ∧ pacing.config.paceCount.toNat = 2
      ∧ pacing.startHistory.length = 1 ∧ queued.config.paceCount = 0) := by decide +kernel

/-- The Start History full, its oldest entry due. -/
def pacedFull : State := { pacing with startHistory := [100, 101] }

theorem test_premises_PacerHoldsBundlesBack :
    (pacedFull.config.paceCount ≠ 0 ∧ pacedFull.config.paceCount.toNat ≤ pacedFull.startHistory.length)
    ∧ sending.tx ≠ none ∧ State.reset.link ≠ .up ∧ busy.controlQueue ≠ [] ∧ busy.eventQueue ≠ []
    ∧ resending.retransmitPtr ≠ none ∧ 8 ≤ (List.replicate 8 (⟨sentDesc, 0, 0, false⟩ : Retained)).length
    ∧ pacedFull.held = false ∧ pacedFull.startHistory = 100 :: [101]
    ∧ [(101 : PartTime)].length + 1 = pacedFull.config.paceCount.toNat
    ∧ reached pacedFull.partTime (100 + pacedFull.config.paceWindow.setWidth 32) = true := by decide +kernel

/-- A request taken before the ageing of its tick is refused; the ageing is a release, and the same request then starts its bundle (R89). -/
theorem test_request_before_ageing_starts_after_it :
    after .firstTransmissionStart pacedFull = pacedFull
      ∧ (after .firstTransmissionStart (after .startHistoryAgeing pacedFull)).startHistory = [101, 200] := by
  decide +kernel

/-- OFFLINE with carrier and a HELLO due. -/
def offline : State := { State.reset with carrier := true, helloTimer := .due }

theorem test_premises_HelloControlAndEventFramesAreSent :
    (offline.held = false ∧ offline.tx = none ∧ offline.link = .offline ∧ offline.helloTimer = .due
      ∧ (after .helloStart offline).tx = some (.hello ⟨.power, 1, 0, 0⟩)
      ∧ (after .helloStart offline).helloTimer = .waiting 100 ∧ reached 100 100 = true ∧ reached 99 100 = false)
    ∧ (busy.held = false ∧ busy.tx = none ∧ busy.link ≠ .offline
      ∧ busy.controlQueue = ⟨.mgmtReply ⟨1, 0x22, .ok, []⟩, false⟩ :: []
      ∧ (let s : State := { busy with controlQueue := [] };
        s.controlQueue = [] ∧ s.eventQueue = ⟨.poolExhausted, 0xFFFF, 0⟩ :: []
          ∧ (after .eventFrameStart s).tx = some (.event ⟨.poolExhausted, 0xFFFF, 0⟩ 0))
      ∧ (after .controlFrameStart busy).tx = some (.control ⟨.mgmtReply ⟨1, 0x22, .ok, []⟩, false⟩)) := by
  decide +kernel

theorem test_premises_RetransmissionStarts :
    resending.held = false ∧ resending.tx = none ∧ resending.link = .up ∧ resending.controlQueue = []
      ∧ resending.eventQueue = [] ∧ resending.retention[0]? = some ⟨sentDesc, 5, 2, true⟩
      ∧ resending.retransmitPtr = some 5 ∧ 2 < resending.config.retryLimit.toNat ∧ resending.config.paceCount = 0
      ∧ { resending.config with retryLimit := 2 }.retryLimit.toNat ≤ 2 := by decide +kernel

/-- The oldest bundle has been resent RETRY_LIMIT times. -/
def atLimit : State := { resending with config := { resending.config with retryLimit := 2 } }

theorem test_premises_RetransmissionStarts_at_limit : RetentionSound atLimit :=
  have h := test_premises_RetransmissionStarts_sound
  ⟨h.1, h.2, h.3, h.4, h.5, h.6, h.7⟩

theorem test_premises_LinkStallsAtRetryLimit :
    (atLimit.held = false ∧ atLimit.retention = ⟨sentDesc, 5, 2, true⟩ :: [⟨sentDesc, 6, 1, true⟩]
      ∧ atLimit.pointed = some ⟨sentDesc, 5, 2, true⟩ ∧ atLimit.bundleTurn = true ∧ atLimit.config.retryLimit.toNat ≤ 2)
    ∧ (resending.pointed = some ⟨sentDesc, 5, 2, true⟩ ∧ 2 < resending.config.retryLimit.toNat)
    ∧ busy.retransmitPtr = none ∧ { atLimit with ackTimer := some 0 }.ackTimer = some 0
    ∧ reached atLimit.partTime 0 = true ∧ reached atLimit.partTime 1 = false ∧ atLimit.ackTimer = none := by
  decide +kernel

theorem test_premises_BundleTransmissionCompletes :
    (sending.held = false ∧ sending.tx = some (.bundle ⟨sentDesc, 5, 2, true⟩) ∧ sending.releasedHold = none
      ∧ sending.retention[0]? = some ⟨sentDesc, 5, 2, true⟩)
    ∧ (after (.bundleAck 5) sending).releasedHold = some [2]
    ∧ (after (.bundleAck 5) sending).tx = some (.bundle ⟨sentDesc, 5, 2, true⟩) := by decide +kernel

/-! ### Trunk receiver and link -/

theorem test_premises_CarrierChangesTheLink :
    (busy.held = false ∧ busy.carrier = true ∧ busy.tx = none)
    ∧ (sending.tx = some (.bundle ⟨sentDesc, 5, 2, true⟩) ∧ sending.releasedHold = none)
    ∧ (after .controlFrameStart busy).tx = some (.control ⟨.mgmtReply ⟨1, 0x22, .ok, []⟩, false⟩)
    ∧ (after .helloStart offline).tx = some (.hello ⟨.power, 1, 0, 0⟩)
    ∧ { busy with tx := some (.event ⟨.poolExhausted, 0, 0⟩ 65535) }.tx
      = some (.event ⟨.poolExhausted, 0, 0⟩ 65535)
    ∧ (after (.bundleAck 5) sending).releasedHold = some [2]
    ∧ State.reset.carrier = false ∧ State.reset.link = .offline := by decide +kernel

/-- A Control Queue of `n` frames. -/
def controlOf (n : Nat) : List ControlEntry := List.replicate n ⟨.dispatchAck 0 [8, 8, 8, 8], false⟩

theorem test_premises_SyncRestartsTheLink :
    busy.held = false ∧ busy.carrier = true ∧ { busy with controlQueue := controlOf 7 }.controlQueue.length = 7
      ∧ { busy with controlQueue := controlOf 8 }.controlQueue.length = 8
      ∧ { busy with link := .stalled }.link = .stalled := by decide +kernel

/-- With the laws shown above for `sending`. -/
theorem test_premises_AcknowledgementReleasesBundles :
    sending.retention[0]? = some ⟨sentDesc, 5, 2, true⟩ ∧ sending.retention[1]? = some ⟨sentDesc, 6, 1, true⟩
      ∧ (after (.bundleAck 6) sending).retention = [] ∧ (after (.bundleNak 6) sending).retransmitPtr = some 6 := by
  decide +kernel

theorem test_premises_StrayAcknowledgementsAreCounted :
    (∀ e ∈ sending.retention, e.seq ≠ 4) ∧ (∀ e ∈ sending.retention, e.seq ≠ 7)
      ∧ ∀ e ∈ upState.retention, e.seq ≠ 0 := by decide +kernel

/-- The covered bytes of a BUNDLE_ACK of sequence 1 to unit 0. -/
def ackCovered : List Byte := 0x82#8 :: 0 :: 0 :: 10 :: [0, 1]

theorem test_premises_FailedFrameIsCountedOnce :
    State.reset.carrier = false ∧ (Instr.sync.frame 5).isSome = true ∧ upState.held = false ∧ upState.carrier = true
      ∧ (List.replicate 7 0#8).length < 8 ∧ 2104 < (List.replicate 2105 0#8).length
      ∧ [0#8, 0, 0, 0].length = 4 ∧ [0#8, 0, 0, 0] ≠ be32 (crc32 ackCovered)
      ∧ (be32 (crc32 ackCovered)).length = 4 ∧ (ackCovered ++ be32 (crc32 ackCovered)).length = 10
      ∧ 0x86#8 ∉ [0x81#8, 0x82#8, 0x83#8, 0x84#8, 0x85#8] ∧ 0x82#8 ∈ [0x81#8, 0x82#8, 0x83#8, 0x84#8, 0x85#8]
      ∧ (0#8 ++ 10#8 : Word16).toNat = 10 ∧ (0#8 ++ 11#8 : Word16).toNat ≠ 10 ∧ parseBody 0x82 [0] = none
      ∧ parseBody 0x82 [0, 1] = some (.bundleAck 1) ∧ 1#8 ≠ upState.unitNumber.setWidth 8
      ∧ 0#8 = offline.unitNumber.setWidth 8 ∧ offline.link = .offline ∧ offline.carrier = true := by decide +kernel

theorem test_premises_EveryTrunkCommandIsReadBack :
    let i : Instr := .dispatch 9 [⟨0, 254, 0xF7, List.replicate 120 7⟩]
    i.wellFormed = true ∧ ((i.frame 15).map List.length) = some 135 := by decide +kernel

/-! ### Dispatch path -/

/-- Port 0 enabled with a queue of 7 records behind the one in SENDING. -/
def almostFull : State :=
  withPort { huntPort with sending := some txRecord, txQueue := List.replicate 7 txRecord }

/-- An entry for port `p`. -/
def entryFor (p node flags : Byte) (n : Nat) : DispatchEntry := ⟨p, node, flags, List.replicate n 1⟩

theorem test_premises_RefusedDispatchIsAnswered :
    Receives almostFull ∧ dispatchLengthRule [entryFor 0 254 0x07 120, entryFor 0 1 0 0] = true
      ∧ 7 ≤ (controlOf 7).length ∧ almostFull.controlQueue.length ≤ 6 ∧ (controlOf 6).length ≤ 6
      ∧ (32768#16 - almostFull.expectedDispatch).toNat = 32768 ∧ (1#16 - almostFull.expectedDispatch).toNat = 1
      ∧ (32767#16 - almostFull.expectedDispatch).toNat = 32767 ∧ (0#16 - almostFull.expectedDispatch).toNat = 0
      ∧ 3 < (entryFor 4 1 0 0).port.toNat ∧ (entryFor 0 0 0 0).node = 0 ∧ (entryFor 0 255 0 0).node = 255
      ∧ (entryFor 0 1 8 0).chanFlags.getLsbD 3 = true
      ∧ 8 - almostFull.ports[(0 : PortNo)].txQueue.length <
        [entryFor 0 254 0x07 120, entryFor 0 1 0 0].countP (fun e =>
          e.port.toNat = (0 : PortNo).val && almostFull.ports[(0 : PortNo)].enabled
            && decide (e.payload.length ≤ almostFull.ports[(0 : PortNo)].maxLen.toNat)) :=
  ⟨⟨rfl, rfl, by decide +kernel⟩, by decide +kernel⟩

/-- Port 0 enabled and IDLE with a maximum of 119, the others off. -/
def idlePort : State := withPort { huntPort with maxLen := 119 }

theorem test_premises_AdmittedDispatchIsQueuedInOrder :
    Receives idlePort ∧ PortsSound idlePort ∧ idlePort.controlQueue.length ≤ 6
      ∧ (let es := [entryFor 0 1 0x07 119, entryFor 0 1 0x04 120, entryFor 3 254 0x04 0]
        dispatchLengthRule es = true
          ∧ (∀ e ∈ es, e.port.toNat ≤ 3 ∧ e.node ≠ 0 ∧ e.node ≠ 255 ∧ e.chanFlags.getLsbD 3 = false)
          ∧ ∀ p : PortNo, es.countP (fun e => e.port.toNat = p.val && idlePort.ports[p].enabled
              && decide (e.payload.length ≤ idlePort.ports[p].maxLen.toNat))
            ≤ 8 - idlePort.ports[p].txQueue.length) :=
  have ports : PortsSound idlePort :=
    { ports := fun
        | 0 => huntPort_sound (fifo := []) (m := 119) rfl (by decide)
        | 1 => resetPort_sound
        | 2 => resetPort_sound
        | 3 => resetPort_sound
      held := nofun }
  ⟨⟨rfl, rfl, by decide +kernel⟩, ports, by decide +kernel⟩

/-! ### Management protocol -/

theorem test_premises_CachedRequestIsNotExecuted :
    Receives busy ∧ (7 ≤ (controlOf 7).length ∧ busy.controlQueue.length ≤ 6
      ∧ busy.replyCache.find? (fun x => x.id == 1) = some ⟨1, 0x22, some ⟨1, 0x22, .ok, []⟩⟩
      ∧ draining.replyCache.find? (fun x => x.id == 7) = some ⟨7, 0x21, none⟩) :=
  ⟨⟨rfl, rfl, by decide +kernel⟩, by decide +kernel⟩

/-- A working part with carrier takes a request under a new id when its Control Queue has room for the reply. -/
theorem executes_of {s : State} {id : Word16}
    (h : (!s.held && s.carrier && s.link != .offline && s.controlRoom && s.replyCache.all fun e => e.id != id) = true) :
    Executes s id := by
  simp only [Bool.and_eq_true, Bool.not_eq_true', bne_iff_ne, State.controlRoom, decide_eq_true_eq, List.all_eq_true]
    at h
  exact
    { receives := ⟨h.1.1.1.1, h.1.1.1.2, h.1.1.2⟩
      room := Nat.lt_succ_iff.mp h.1.2
      fresh := h.2 }

/-- A request under a new id is executed, with 6 frames in the Control Queue. -/
theorem test_premises_requests_are_executed :
    (Executes { busy with controlQueue := controlOf 6 } 2 ∧ Executes { upState with opState := .quiesced } 2)
      ∧ Executes draining 2 ∧ Executes upState 2 :=
  have working : Executes upState 2 := executes_of (by decide +kernel)
  ⟨⟨executes_of (by decide +kernel), executes_of (by decide +kernel)⟩, executes_of (by decide +kernel), working⟩

theorem test_premises_ReadingCommandsReportTheState :
    (127#8).toNat = (127 : Fin 128).val ∧ 127 < (128#8).toNat ∧ 1 < (2#8).toNat ∧ (31#8).toNat = (31 : Fin 32).val
      ∧ 31 < (32#8).toNat ∧ (7#8).toNat = (7 : Fin 8).val ∧ 7 < (8#8).toNat ∧ (3#8).toNat = (3 : PortNo).val
      ∧ 3 < (4#8).toNat := by decide +kernel

/-- The ranges as matchInRange_iff, profileInRange_iff and configInRange_iff spell them. -/
theorem test_premises_TableWritesAreTakenAndReadBack :
    matchInRange ⟨1, 0xFF, 1, 254, 0xFF, 1, 200⟩ = true ∧ matchInRange ⟨1, 3, 254, 254, 15, 0, 31⟩ = true
      ∧ matchInRange ⟨1, 3, 254, 253, 15, 0, 31⟩ = false ∧ matchInRange ⟨1, 4, 1, 1, 0, 0, 0⟩ = false
      ∧ matchInRange ⟨0, 0, 1, 1, 0, 0, 32⟩ = false
      ∧ profileInRange ⟨1, 0, 1, 64, 2048, 65535, 0, 0xFF, 1⟩ = true ∧ profileInRange ⟨1, 0, 1, 65, 2048, 0, 0, 7, 1⟩ = false
      ∧ profileInRange ⟨1, 0, 1, 1, 127, 0, 0, 7, 1⟩ = false
      ∧ configInRange pacedConfig = true ∧ configInRange { pacedConfig with paceWindow := 1001 } = false
      ∧ configInRange { pacedConfig with eventMask := 0x200 } = false
      ∧ (List.replicate 32 0#8).length = (32#8).toNat ∧ (32#8).toNat ≤ 32 ∧ 32 < (33#8).toNat := by decide +kernel

/-- `busy` with a full Control Queue but for the reply, and a record held for profile 3. -/
def holding : State := { busy with controlQueue := controlOf 6, hold := some ⟨takenOfLength 4, 3⟩ }

theorem test_premises_ProfileWriteAndFlushCloseTheSlot :
    Executes { busy with controlQueue := controlOf 6 } 2 ∧ SlotTableSound { busy with controlQueue := controlOf 6 }
      ∧ Executes holding 2 ∧ SlotTableSound holding
      ∧ (busy.hold = none ∧ holding.hold = some ⟨takenOfLength 4, 3⟩ ∧ draining.opState ≠ .run
        ∧ (∀ n : SlotNo, openProfile busy.slots[n] ≠ some 31)
        ∧ busy.slots[(0 : SlotNo)] = .opened openBundle (some 10) (some 20) ∧ openBundle.snapshot.profile = 3
        ∧ 31 < (254#8).toNat ∧ (254#8).toNat < 255) :=
  have h := slotTable_with test_premises_StepKeepsSlotTable rfl busy.freeList (controlOf 6)
  ⟨test_premises_requests_are_executed.1.1, h busy.hold, executes_of (by decide +kernel),
    h (some ⟨takenOfLength 4, 3⟩), by decide +kernel⟩

theorem test_premises_FlushAllAndQuiesceCloseOpenSlots :
    busy.opState = .run ∧ 1 ≤ (1#16).toNat ∧ (60000#16).toNat ≤ 60000 ∧ ∃ n : SlotNo, busy.slots[n] ≠ .idle := by
  decide +kernel

theorem test_premises_ResumeAndQuiesceAnswerByState :
    (∀ n : SlotNo, upState.slots[n] = .idle) ∧ upState.opState = .run ∧ draining.opState = .draining
      ∧ { upState with opState := .quiesced }.hold = none
      ∧ ¬ (1 ≤ (0#16).toNat ∧ (0#16).toNat ≤ 60000) ∧ ¬ (1 ≤ (60001#16).toNat ∧ (60001#16).toNat ≤ 60000) := by
  decide +kernel

/-- With the laws shown above for `draining`. -/
theorem test_premises_DrainTimeoutDiscardsClosedSlots :
    draining.held = false ∧ draining.opState = .draining ∧ draining.drainTimer = some 100
      ∧ draining.replyCache = [⟨1, 0x22, some ⟨1, 0x22, .ok, []⟩⟩] ++ ⟨7, 0x21, none⟩ :: []
      ∧ reached { draining with partTime := 99 }.partTime 100 = false
      ∧ reached { draining with partTime := 100 }.partTime 100 = true := by decide +kernel

theorem test_premises_PortControlTakesDisableSettingsEnable :
    ((3#8).toNat = (3 : PortNo).val ∧ BitRate.ofByte 6 = some .r1000000 ∧ BitRate.ofByte 0 = some .r9600
      ∧ (120#8).toNat ≤ 120 ∧ Port.reset.enabled = false ∧ huntPort.enabled = true ∧ huntPort.bitRate = .r115200
      ∧ huntPort.maxLen = 120 ∧ huntPort.bitRate ≠ .r9600 ∧ huntPort.maxLen ≠ 119 ∧ 3 < (4#8).toNat ∧ 1 < (2#8).toNat
      ∧ 6 < (7#8).toNat ∧ 120 < (121#8).toNat)
    ∧ PortSound huntPort ∧ PortSound Port.reset ∧ Executes (withPort huntPort) 2 :=
  ⟨by decide +kernel, huntPort_sound (fifo := []) (m := 120) rfl (by decide), resetPort_sound, executes_of (by decide +kernel)⟩

theorem test_premises_CountersSaturateAndAreReadThenCleared :
    (3#8).toNat = (3 : PortNo).val ∧ 3 < (4#8).toNat ∧ 7 < (8#8).toNat ∧ groupOf 7 255 = some .mgmt
      ∧ (groupItems (accepted busy) (.port 3)).length = 10 ∧ (groupItems (accepted busy) .pool).length = 3
      ∧ 1 < (2#8).toNat ∧ (0xFFFFFFFE#32).toNat < 4294967295 ∧ (0xFFFFFFFF#32).toNat = 4294967295 := by decide +kernel

theorem test_premises_ResetPartLeavesAResetPending :
    busy.pendingReset = none ∧ resetPending.pendingReset ≠ none ∧ (0#8 ≠ 1 ∧ 0#8 ≠ 2) ∧ unknownCode 0x40 = true
      ∧ unknownCode 0 = true ∧ (List.replicate 2093 0#8).length ≤ 2093 := by decide +kernel

/-! ### The frames the part sends -/

/-- A HELLO on the trunk, but for its check; and a bundle in transmission with its descriptor sound. -/
theorem test_premises_SentFramesHaveTheirLayout :
    ((after .helloStart offline).txBytes.map (List.take 9) = some [2, 0, 0, 13, 1, 1, 0, 0, 0]
      ∧ sending.tx = some (.bundle ⟨sentDesc, 5, 2, true⟩)) ∧ DescriptorSound sentDesc :=
  ⟨by decide +kernel, sentDesc_sound 2 .bulk⟩

end Sys2Proof.Tests
end

section
/-! Proofs: what a character does to a receiver in HUNT (R3 to R5). -/

namespace Sys2Proof.Machine

/-- On a working part an arriving character is taken in the port's receive state (R3). -/
theorem exec_characterArrival_of_working {s : State} (h : s.held = false) (p : PortNo) (v : Byte) (framing : Bool) :
    exec (.characterArrival p v framing) s = .next (takeCharacter s p v framing) :=
  live_of_working h fun t => takeCharacter t p v framing

/-- A receiver in HUNT begins a frame on an SOF (R5). -/
theorem takeCharacter_hunt_sof {s : State} {p : PortNo} (h : s.ports[p].rx = .hunt) :
    takeCharacter s p 0xA6#8 false = s.setPort p s.ports[p].startFrame := by
  simp only [takeCharacter, h, State.modPort_eq, and_self, if_true]

/-- A receiver in HUNT ignores every character that is not an SOF (R5). -/
theorem takeCharacter_hunt_ignored {s : State} {p : PortNo} {v : Byte} {framing : Bool} (h : s.ports[p].rx = .hunt)
    (notSof : ¬ (framing = false ∧ v = 0xA6#8)) : takeCharacter s p v framing = s := by
  simp only [takeCharacter, h, if_neg notSof]

/-- Settles O19: the character reaches the receiver, and it is an SOF or it is ignored. -/
theorem huntTakesOnlySof : Obligations.HuntTakesOnlySof := by
  intro s p v framing working hunt
  rw [exec_characterArrival_of_working working]
  by_cases sof : framing = false ∧ v = 0xA6#8
  · obtain ⟨rfl, rfl⟩ := sof
    rw [takeCharacter_hunt_sof hunt, if_pos ⟨rfl, rfl⟩, Port.startFrame]
  · rw [takeCharacter_hunt_ignored hunt sof, if_neg sof]

end Sys2Proof.Machine
end

section
/-! Proofs: a placement attempt on an invalid profile, and what a trial of the held record makes of an attempt's outcome (R34, R36, R57 (2)). -/

namespace Sys2Proof.Machine

/-- An attempt that finds the profile not valid counts ROUTE_INVALID and touches nothing else (R34). -/
theorem place_of_invalid {s : State} {p : Fin 32} (invalid : s.profiles[p].valid = false) (t : TakenRecord) :
    place s p t =
      ({ s with classify := { s.classify with routeInvalid := bump s.classify.routeInvalid } }, .invalid) :=
  if_neg (Bool.eq_false_iff.mp invalid)

/-- In RUN a held record is attempted once: it stays held when it must wait, else it leaves and the eviction mark is cleared (R36, R57 (2)). -/
theorem tryHeld_of_place {s s' : State} {h : Held} {res : PlaceResult} (run : s.opState = .run)
    (holds : s.hold = some h) (placed : place s h.profile h.taken = (s', res)) :
    tryHeld s = if res = .wait then s' else { s' with hold := none, evictionMark := none } := by
  cases res <;> simp [tryHeld, run, holds, placed]

/-- Settles O31: the attempt fails the validity check, and a held record dropped so leaves the hold stage. -/
theorem invalidProfileDropsRecord : Obligations.InvalidProfileDropsRecord := by
  intro s p t invalid
  have dropped := place_of_invalid invalid t
  refine ⟨dropped, fun run holds => ?_⟩
  exact (tryHeld_of_place run holds dropped).trans (if_neg (by decide))

end Sys2Proof.Machine
end

section
/-! Proofs: what a step can do to the Slot Table and to the bundles of the part. Every command is a run of a few kinds of change; the laws of the Slot Table (R50 to R52, R57, R61) and of the bundles (R53, R71) are then shown for each kind once. -/

namespace Sys2Proof.Machine

open Safety

/-! ### What the laws look at -/

/-- The descriptors of bundles that have left the Slot Table: both Emission Queues and the Retention List (R79). -/
def State.descriptors (s : State) : List Descriptor :=
  s.expressQueue ++ s.bulkQueue ++ s.retention.map Retained.desc

/-- The part of the state that the laws of the Slot Table and of the bundles speak of, with what a placement reads. -/
structure BundleView where
  slots : Vector Slot 16
  openOrder : List SlotNo
  closeExpress : List SlotNo
  closeBulk : List SlotNo
  evictionMark : Option SlotNo
  hold : Option Held
  opState : OpState
  profiles : Vector Profile 32
  templates : Vector (List Byte) 8
  descriptors : List Descriptor

/-- A state's part that the laws speak of. -/
def State.bundleView (s : State) : BundleView where
  slots := s.slots
  openOrder := s.openOrder
  closeExpress := s.closeExpress
  closeBulk := s.closeBulk
  evictionMark := s.evictionMark
  hold := s.hold
  opState := s.opState
  profiles := s.profiles
  templates := s.templates
  descriptors := s.descriptors

/-- Nothing that the laws speak of has changed. -/
def Quiet (s t : State) : Prop := t.bundleView = s.bundleView

theorem Quiet.refl (s : State) : Quiet s s := rfl

theorem Quiet.trans {s t u : State} (h : Quiet s t) (h' : Quiet t u) : Quiet s u := Eq.trans h' h

section

variable {s t : State}

theorem Quiet.slots (h : Quiet s t) : t.slots = s.slots := congrArg BundleView.slots h

theorem Quiet.openOrder (h : Quiet s t) : t.openOrder = s.openOrder := congrArg BundleView.openOrder h

/-- The Close Order Lists, class by class. -/
theorem closeOrder_congr (express : t.closeExpress = s.closeExpress) (bulk : t.closeBulk = s.closeBulk)
    (cls : BundleClass) : t.closeOrder cls = s.closeOrder cls := by
  cases cls
  · exact express
  · exact bulk

theorem Quiet.closeOrder (h : Quiet s t) (cls : BundleClass) : t.closeOrder cls = s.closeOrder cls :=
  closeOrder_congr (congrArg BundleView.closeExpress h) (congrArg BundleView.closeBulk h) cls

theorem Quiet.evictionMark (h : Quiet s t) : t.evictionMark = s.evictionMark := congrArg BundleView.evictionMark h

theorem Quiet.hold (h : Quiet s t) : t.hold = s.hold := congrArg BundleView.hold h

theorem Quiet.opState (h : Quiet s t) : t.opState = s.opState := congrArg BundleView.opState h

theorem Quiet.profiles (h : Quiet s t) : t.profiles = s.profiles := congrArg BundleView.profiles h

theorem Quiet.templates (h : Quiet s t) : t.templates = s.templates := congrArg BundleView.templates h

theorem Quiet.descriptors (h : Quiet s t) : t.descriptors = s.descriptors := congrArg BundleView.descriptors h

end

theorem Quiet.quiesced {s t : State} (h : Quiet s t) :
    Quiet { s with opState := .quiesced } { t with opState := .quiesced } := by
  have same := congrArg (fun v : BundleView => { v with opState := OpState.quiesced }) h
  exact same

theorem EventReach.quiet {s t : State} (h : EventReach s t) : Quiet s t := by
  unfold Quiet
  rw [h]
  rfl

/-! ### The kinds of change -/

/-- One change of the Slot Table, of the bundles or of what placements read; `offered` holds of the records that may be offered to the Slot Table for the first time. -/
inductive SlotChange (offered : TakenRecord → Prop) : State → State → Prop
  /-- No new descriptor stands anywhere, and nothing else that the laws speak of has changed. -/
  | release {s t : State} (view : t.bundleView = { s.bundleView with descriptors := t.descriptors })
      (fewer : t.descriptors ⊆ s.descriptors) : SlotChange offered s t
  /-- A claim to close (R47, R48). -/
  | close (s : State) (n : SlotNo) (cause : CloseCause) : SlotChange offered s (closeSlot s n cause)
  /-- The Classifier offers a taken record (R24). -/
  | offer {s : State} (p : Fin 32) {t : TakenRecord} (run : s.opState = .run) (free : s.hold = none)
      (waiting : offered t) : SlotChange offered s (handOver s p t)
  /-- A trigger: a held record is tried (R59). -/
  | trial (s : State) : SlotChange offered s (tryHeld s)
  /-- A CLOSED slot's bundle moves to its Emission Queue (R63). -/
  | move (s : State) (cls : BundleClass) : SlotChange offered s (moveHead s cls)
  /-- A route profile is written (R33). -/
  | writeProfile (s : State) (p : Fin 32) {profile : Profile} (range : ProfileInRange profile) :
      SlotChange offered s { s with profiles := s.profiles.set p.val profile p.isLt }
  /-- A template is written (R35). -/
  | writeTemplate (s : State) (i : Fin 8) {bytes : List Byte} (fits : bytes.length ≤ 32) :
      SlotChange offered s { s with templates := s.templates.set i.val bytes i.isLt }
  /-- QUIESCE with every slot IDLE (R146). -/
  | rest {s : State} (idle : s.allIdle = true) : SlotChange offered s { s with opState := .quiesced }
  /-- QUIESCE with a slot that is not IDLE: every OPEN slot closes (R61, R146). -/
  | drain {s : State} (busy : s.allIdle = false) :
      SlotChange offered s (closeAll { s with opState := .draining } .quiesce)
  /-- RESUME (R145). -/
  | resume {s : State} (quiesced : s.opState = .quiesced) : SlotChange offered s { s with opState := .run }
  /-- The drain timer's expiry discards the CLOSED slots (R64, R149). -/
  | discard {s : State} (draining : s.opState = .draining) :
      SlotChange offered s { discardClosed s with opState := .quiesced }
  /-- A reset (section 8.6). -/
  | reset (s : State) (level : ResetLevel) : SlotChange offered s (performReset s level)

/-- A run of such changes. -/
abbrev SlotRun (offered : TakenRecord → Prop) : State → State → Prop := Relation.ReflTransGen (SlotChange offered)

/-- A law that every change keeps is kept by every run. -/
theorem SlotRun.keeps {offered : TakenRecord → Prop} {P : State → Prop}
    (kept : ∀ {s t : State}, SlotChange offered s t → P s → P t) {s t : State} (h : SlotRun offered s t)
    (hs : P s) : P t := by
  induction h with
  | refl => exact hs
  | tail _ change ih => exact kept change ih

/-- The answer `o` is a state that a run from `s` leads to. -/
def LeadsFrom (offered : TakenRecord → Prop) (s : State) (o : Host.Outcome State Fault Refusal) : Prop :=
  ∀ t, o = .next t → SlotRun offered s t

section Runs

variable {offered : TakenRecord → Prop} {s t u : State}

theorem Quiet.run (h : Quiet s t) : SlotRun offered s t := by
  refine .single (.release ?_ fun _ hd => h.descriptors ▸ hd)
  rw [h, h.descriptors]
  rfl

theorem SlotRun.of_quiet (h : Quiet s t) (run : SlotRun offered t u) : SlotRun offered s u := h.run.trans run

theorem LeadsFrom.next (h : SlotRun offered s t) : LeadsFrom offered s (.next t) := by
  rintro _ ⟨⟩
  exact h

/-- The gate `live`, with what is done behind it (R158). -/
theorem LeadsFrom.live (h : SlotRun offered s t) : LeadsFrom offered s (.next (if s.held then s else t)) := by
  refine .next ?_
  split
  · exact .refl
  · exact h

theorem received_run {f : State → State} (h : SlotRun offered s (f s)) : SlotRun offered s (received s f) := by
  obtain passes | taken | counted := received_cases s f
  · rw [passes]
  · rw [taken]; exact h
  · rw [counted]; exact Quiet.run rfl

/-! ### Operations that touch nothing the laws speak of -/

theorem raise_quiet (s : State) (e : Event) : Quiet s (raise s e) := (raise_reach s e).quiet

theorem setPort_quiet (s : State) (p : PortNo) (port : Port) : Quiet s (s.setPort p port) := rfl

theorem modPort_quiet (s : State) (p : PortNo) (f : Port → Port) : Quiet s (s.modPort p f) := rfl

theorem reportOverflow_quiet (s : State) (p : PortNo) : Quiet s (reportOverflow s p) := by
  unfold reportOverflow
  split
  · exact Quiet.trans (t := { s with intakeArmed := s.intakeArmed.set p.val false p.isLt }) rfl (raise_quiet _ _)
  · rfl

theorem reportMiss_quiet (s : State) (r : TakenRecord) : Quiet s (reportMiss s r) := by
  unfold reportMiss
  split
  · exact Quiet.trans (t := { s with routeMissArmed := false }) rfl (raise_quiet _ _)
  · rfl

theorem reportUndelivered_quiet (s : State) (p : PortNo) (r : PortTxRecord) (reason : UndeliveredReason) :
    Quiet s (reportUndelivered s p r reason) := by
  unfold reportUndelivered
  split
  · exact raise_quiet _ _
  · rfl

theorem checkPoolLow_quiet (s : State) : Quiet s (checkPoolLow s) := by
  unfold checkPoolLow
  split
  · exact Quiet.trans (t := { s with poolLowArmed := false }) rfl (raise_quiet _ _)
  · rfl

theorem checkPoolExhausted_quiet (s : State) : Quiet s (checkPoolExhausted s) := by
  unfold checkPoolExhausted
  split
  · exact Quiet.trans (t := { s with poolExhaustedArmed := false }) rfl (raise_quiet _ _)
  · rfl

/-- A request for blocks touches only the pool, whether it is granted or refused (R70). -/
theorem grant_quiet (s : State) (k : Nat) : Quiet s (grant s k).1 := by
  unfold grant
  split
  · refine Quiet.trans ?_ (checkPoolLow_quiet _)
    rfl
  · refine Quiet.trans ?_ (checkPoolExhausted_quiet _)
    rfl

theorem rearmPool_quiet (s : State) : Quiet s (rearmPool s) := by
  unfold rearmPool
  split <;> rfl

theorem returnChain_quiet (s : State) (chain : List BlockNo) : Quiet s (returnChain s chain) :=
  Quiet.trans (t := { s with freeList := s.freeList ++ chain }) rfl (rearmPool_quiet _)

theorem writeHeader_quiet (s : State) (p : PortNo) (v : Byte) : Quiet s (writeHeader s p v) := by
  unfold writeHeader overflowAtHeader
  split
  · exact (modPort_quiet s p _).trans (reportOverflow_quiet _ p)
  · exact modPort_quiet s p _

theorem takeHeader_quiet (s : State) (p : PortNo) (v : Byte) : Quiet s (takeHeader s p v) := by
  have fails (port : Port) : Quiet s (s.setPort p port) := setPort_quiet s p port
  have passes : Quiet s (writeHeader s p v) := writeHeader_quiet s p v
  unfold takeHeader
  dsimp only
  split
  · split
    exacts [fails _, passes]
  · split
    · split
      exacts [fails _, passes]
    · split
      exacts [fails _, passes]

theorem takePayload_quiet (s : State) (p : PortNo) (v : Byte) : Quiet s (takePayload s p v) := by
  unfold takePayload
  dsimp only
  split
  · exact (setPort_quiet s p _).trans (reportOverflow_quiet _ p)
  · rfl

theorem takeCheck_quiet (s : State) (p : PortNo) (v : Byte) : Quiet s (takeCheck s p v) := by
  unfold takeCheck
  dsimp only
  repeat' split
  all_goals rfl

theorem takeCharacter_quiet (s : State) (p : PortNo) (v : Byte) (framing : Bool) :
    Quiet s (takeCharacter s p v framing) := by
  unfold takeCharacter
  split
  case h_1 => rfl
  case h_2 => split <;> rfl
  case h_3 => split; exacts [rfl, takeHeader_quiet s p v]
  case h_4 => split; exacts [rfl, takePayload_quiet s p v]
  case h_5 => split; exacts [rfl, takeCheck_quiet s p v]
  case h_6 => split <;> rfl

theorem byteGapExpiry_quiet (s : State) (p : PortNo) : Quiet s (byteGapExpiry s p) := by
  unfold byteGapExpiry
  repeat' split
  all_goals rfl

theorem fieldFrameDone_quiet (s : State) (p : PortNo) : Quiet s (fieldFrameDone s p) := by
  unfold fieldFrameDone
  split
  · rfl
  · dsimp only
    split
    · exact (modPort_quiet s p _).trans ((raise_quiet _ _).trans (modPort_quiet _ p _))
    · rfl

theorem abortSending_quiet (s : State) (p : PortNo) : Quiet s (abortSending s p) := by
  unfold abortSending
  split
  · rfl
  · exact (modPort_quiet s p _).trans (reportUndelivered_quiet _ p _ _)

theorem discardQueued_quiet (s : State) (p : PortNo) (l : List PortTxRecord) : Quiet s (discardQueued s p l) := by
  induction l generalizing s with
  | nil => rfl
  | cons r l ih => exact (modPort_quiet s p _).trans ((reportUndelivered_quiet _ p r _).trans (ih _))

theorem disablePort_quiet (s : State) (p : PortNo) : Quiet s (disablePort s p) :=
  (modPort_quiet s p _).trans <| (abortSending_quiet _ p).trans <| (modPort_quiet _ p _).trans <|
    discardQueued_quiet _ p _

theorem controlPort_quiet (s : State) (p : PortNo) (enable : Bool) (rate : BitRate) (maxLen : Byte) :
    Quiet s (controlPort s p enable rate maxLen).state := by
  unfold controlPort
  split
  · exact (disablePort_quiet s p).trans (modPort_quiet _ p _)
  · repeat' split
    all_goals rfl

theorem admitEntry_quiet (s : State) (seq : Word16) (index : Nat) (e : DispatchEntry) :
    Quiet s (admitEntry s seq index e) := by
  unfold admitEntry
  dsimp only
  split
  · rfl
  · exact Quiet.trans rfl (reportUndelivered_quiet _ _ _ _)
  · exact Quiet.trans rfl (reportUndelivered_quiet _ _ _ _)

theorem admitEntries_quiet (s : State) (seq : Word16) (index : Nat) (es : List DispatchEntry) :
    Quiet s (admitEntries s seq index es) := by
  induction es generalizing s index with
  | nil => rfl
  | cons e es ih => exact (admitEntry_quiet s seq index e).trans (ih _ _)

theorem takeExpected_quiet (s : State) (seq : Word16) (es : List DispatchEntry) : Quiet s (takeExpected s seq es) := by
  unfold takeExpected
  split
  · rfl
  · split
    · exact (admitEntries_quiet s seq 0 es).trans rfl
    · rfl

theorem takeDispatch_quiet (s : State) (seq : Word16) (es : List DispatchEntry) : Quiet s (takeDispatch s seq es) := by
  unfold takeDispatch
  split
  · rfl
  · split
    · rfl
    · rfl
    · exact takeExpected_quiet s seq es

theorem countBadLength_quiet (s : State) : Quiet s (countBadLength s) := by
  unfold countBadLength
  split <;> rfl

theorem discardFrame_quiet (s : State) (frame : List Byte) : Quiet s (discardFrame s frame) := by
  unfold discardFrame
  repeat' split
  all_goals rfl

theorem clearGroup_quiet (s : State) (g : CounterGroup) : Quiet s (clearGroup s g) := by
  cases g <;> rfl

theorem stall_quiet (s : State) : Quiet s (stall s) := by
  unfold stall
  dsimp only
  split
  · rfl
  · exact Quiet.trans rfl (raise_quiet _ _)

/-- A change of retained bundles that keeps each one's descriptor leaves the descriptors as they are. -/
theorem retention_quiet {s t : State} (same : Quiet s { t with retention := s.retention })
    (descs : t.retention.map Retained.desc = s.retention.map Retained.desc) : Quiet s t := by
  refine Eq.trans ?_ same
  unfold State.bundleView State.descriptors
  rw [descs]

theorem modRetained_descs (p : Word16) (f : Retained → Retained) (keeps : ∀ e, (f e).desc = e.desc)
    (l : List Retained) : (modRetained p f l).map Retained.desc = l.map Retained.desc := by
  unfold modRetained
  rw [List.map_map]
  refine List.map_congr_left fun e _ => ?_
  dsimp only [Function.comp_apply]
  split
  · exact keeps e
  · rfl

theorem takeSync_quiet (s : State) : Quiet s (takeSync s) := by
  have descs : (s.retention.map fun e => { e with retry := 0 }).map Retained.desc
      = s.retention.map Retained.desc := by
    rw [List.map_map]
    rfl
  unfold takeSync
  split
  · rfl
  · split
    · rfl
    · dsimp only
      split
      · refine Quiet.trans ?_ (raise_quiet _ _)
        exact retention_quiet rfl descs
      · exact retention_quiet rfl descs

theorem startRetransmission_quiet (s : State) : Quiet s (startRetransmission s) := by
  unfold startRetransmission
  split
  · rfl
  · split
    · refine retention_quiet rfl (modRetained_descs _ _ ?_ _)
      exact fun _ => rfl
    · rfl

theorem retryCheck_quiet (s : State) : Quiet s (retryCheck s) := by
  unfold retryCheck
  split
  · rfl
  · split
    · exact stall_quiet s
    · rfl

theorem expireAck_quiet (s : State) : Quiet s (expireAck s) := by
  unfold expireAck
  split
  · split
    · split
      · exact stall_quiet s
      · rfl
    · rfl
  · rfl

theorem ageHistory_quiet (s : State) : Quiet s (ageHistory s) := by
  unfold ageHistory
  repeat' split
  all_goals rfl

theorem startHello_quiet (s : State) : Quiet s (startHello s) := by
  unfold startHello
  split <;> rfl

theorem completeHello_quiet (s : State) : Quiet s (completeHello s) := by
  unfold completeHello
  split <;> rfl

theorem expireHello_quiet (s : State) : Quiet s (expireHello s) := by
  unfold expireHello
  repeat' split
  all_goals rfl

theorem startControl_quiet (s : State) : Quiet s (startControl s) := by
  unfold startControl
  repeat' split
  all_goals rfl

theorem startEvent_quiet (s : State) : Quiet s (startEvent s) := by
  unfold startEvent
  repeat' split
  all_goals rfl

theorem completeEvent_quiet (s : State) : Quiet s (completeEvent s) := by
  unfold completeEvent
  split <;> rfl

theorem moveStraps_quiet (s : State) : Quiet s (moveStraps s) := by
  rw [moveStraps_eq]
  rfl

theorem tick_quiet (s : State) : Quiet s (tick s) := by
  unfold tick
  split
  · rfl
  · exact Quiet.trans (t := { s with partTime := s.partTime + 1 }) rfl ((moveStraps_quiet _).trans rfl)

/-- The end of DRAINING touches nothing but the operating state. -/
theorem endDrain_quiet (s : State) (status : Status) (result : List Byte) :
    Quiet { s with opState := .quiesced } (endDrain s status result) := by
  unfold endDrain
  dsimp only
  repeat' split
  all_goals rfl

/-! ### Runs of the commands that change the Slot Table or the bundles -/

theorem giveBack_run (s : State) (chain : List BlockNo) : SlotRun offered s (giveBack s chain) :=
  (returnChain_quiet s chain).run.tail (.trial _)

theorem closeAll_run (s : State) (cause : CloseCause) : SlotRun offered s (closeAll s cause) := by
  unfold closeAll
  generalize s.openOrder = l
  induction l generalizing s with
  | nil => exact .refl
  | cons n l ih => exact .head (.close s n cause) (ih _)

theorem closeProfile_run (s : State) (p : Fin 32) (cause : CloseCause) :
    SlotRun offered s (closeProfile s p cause) := by
  unfold closeProfile
  split
  · exact .single (.close s _ cause)
  · exact .refl

theorem idleExpiry_run (s : State) (n : SlotNo) : SlotRun offered s (idleExpiry s n) := by
  unfold idleExpiry
  split
  · split
    · exact .single (.close s n _)
    · exact .refl
  · exact .refl

theorem ageExpiry_run (s : State) (n : SlotNo) : SlotRun offered s (ageExpiry s n) := by
  unfold ageExpiry
  split
  · split
    · exact .single (.close s n _)
    · exact .refl
  · exact .refl

theorem tryHeldFor_run (s : State) (p : Fin 32) : SlotRun offered s (tryHeldFor s p) := by
  unfold tryHeldFor
  split
  · split
    · exact .single (.trial s)
    · exact .refl
  · exact .refl

/-- The Classifier takes a record only in RUN with the hold stage empty, and from the Intake FIFO of its port (R22). -/
theorem nextTake_eq_some {p : PortNo} {r : FieldRecord} {rest : List FieldRecord}
    (h : s.nextTake = some (p, r, rest)) : s.opState = .run ∧ s.hold = none ∧ r ∈ s.ports[p].fifo := by
  unfold State.nextTake at h
  split at h
  · rename_i ready
    obtain ⟨q, _, hq⟩ := List.exists_of_findSome?_eq_some h
    split at hq
    · cases hq
    · rename_i fifo
      cases hq
      exact ⟨ready.1, ready.2, fifo ▸ List.mem_cons_self⟩
  · cases h

theorem handleHit_run {r : TakenRecord} (run : s.opState = .run) (free : s.hold = none) (waiting : offered r)
    (i : Fin 128) : SlotRun offered s (handleHit s i r) := by
  unfold handleHit
  dsimp only
  split
  · exact Quiet.run rfl
  · have counted : Quiet s { s with matchHits := s.matchHits.set i.val (bump s.matchHits[i]) i.isLt } := rfl
    exact counted.run.tail (.offer _ (counted.opState.trans run) (counted.hold.trans free) waiting)

theorem handleMiss_run {r : TakenRecord} (run : s.opState = .run) (free : s.hold = none) (waiting : offered r) :
    SlotRun offered s (handleMiss s r) := by
  have reported := reportMiss_quiet s r
  unfold handleMiss
  dsimp only
  split
  · refine reported.run.trans ?_
    exact Quiet.run rfl
  · exact reported.run.tail (.offer _ (reported.opState.trans run) (reported.hold.trans free) waiting)

/-- The state in which a taken record is looked up: its port's FIFO shortened, the take counted, the next port's turn (R22, R24). -/
def afterTake (s : State) (p : PortNo) (rest : List FieldRecord) : State :=
  { s.modPort p fun port => { port with fifo := rest } with
    roundRobin := p + 1
    classify := { s.classify with taken := bump s.classify.taken } }

theorem afterTake_quiet (s : State) (p : PortNo) (rest : List FieldRecord) : Quiet s (afterTake s p rest) := rfl

/-- A taken record handled by what its lookup gives (R24, R26). -/
def classified (s : State) (r : TakenRecord) : State :=
  match s.lookup r with
  | some i => handleHit s i r
  | none => handleMiss s r

theorem classifierTake_of_next {p : PortNo} {r : FieldRecord} {rest : List FieldRecord}
    (h : s.nextTake = some (p, r, rest)) : classifierTake s = classified (afterTake s p rest) ⟨p, r⟩ := by
  unfold classifierTake
  rw [h]
  rfl

theorem classified_run {r : TakenRecord} (run : s.opState = .run) (free : s.hold = none) (waiting : offered r) :
    SlotRun offered s (classified s r) := by
  unfold classified
  split
  · exact handleHit_run run free waiting _
  · exact handleMiss_run run free waiting

theorem classifierTake_run (ready : ∀ (p : PortNo), ∀ r ∈ s.ports[p].fifo, offered ⟨p, r⟩) :
    SlotRun offered s (classifierTake s) := by
  cases next : s.nextTake with
  | none =>
    unfold classifierTake
    rw [next]
  | some taken =>
    obtain ⟨p, r, rest⟩ := taken
    obtain ⟨run, free, mem⟩ := nextTake_eq_some next
    rw [classifierTake_of_next next]
    exact .of_quiet (afterTake_quiet s p rest) (classified_run run free (ready p r mem))

theorem startNewBundle_run (s : State) (cls : BundleClass) : SlotRun offered s (startNewBundle s cls) := by
  unfold startNewBundle
  split
  · exact .refl
  · rename_i d rest queue
    refine .head (.release ?_ ?_) (.single (.move _ cls))
    · cases cls <;> rfl
    · intro x
      cases cls <;> simp only [State.queue] at queue <;>
        simp only [State.descriptors, State.setQueue, queue, List.map_append, List.map_cons, List.map_nil,
          List.mem_append, List.mem_cons, List.not_mem_nil] <;>
        tauto

theorem startFirst_run (s : State) : SlotRun offered s (startFirst s) := by
  unfold startFirst
  split
  · split
    · exact .refl
    · exact startNewBundle_run s _
  · exact .refl

theorem removeOldest_run (k : Nat) (s : State) : SlotRun offered s (removeOldest k s) := by
  induction k generalizing s with
  | zero => exact .refl
  | succ k ih =>
    unfold removeOldest
    split
    · exact .refl
    · rename_i e rest retention
      have fewer : s.expressQueue ++ s.bulkQueue ++ rest.map Retained.desc ⊆ s.descriptors := by
        unfold State.descriptors
        rw [retention]
        exact List.append_subset.mpr
          ⟨List.subset_append_left _ _, fun _ h => List.mem_append_right _ (List.mem_cons_of_mem _ h)⟩
      dsimp only
      split
      · refine .head (.release ?_ ?_) (ih _)
        exacts [rfl, fewer]
      · refine .head (.release ?_ ?_) ((giveBack_run _ _).trans (ih _))
        exacts [rfl, fewer]

theorem returnHold_run (s : State) : SlotRun offered s (returnHold s) := by
  unfold returnHold
  split
  · exact .refl
  · refine .of_quiet ?_ (giveBack_run _ _)
    rfl

theorem takeAck_run (s : State) (n : Word16) : SlotRun offered s (takeAck s n) := by
  unfold takeAck
  split
  · exact Quiet.run rfl
  · exact (removeOldest_run _ s).trans (Quiet.run rfl)

theorem takeNak_run (s : State) (n : Word16) : SlotRun offered s (takeNak s n) := by
  unfold takeNak
  split
  · exact Quiet.run rfl
  · exact (removeOldest_run _ s).trans (Quiet.run rfl)

theorem completeBundle_run (s : State) : SlotRun offered s (completeBundle s) := by
  unfold completeBundle
  split
  · split
    · refine .of_quiet ?_ (returnHold_run _)
      rfl
    · refine Quiet.run (retention_quiet rfl (modRetained_descs _ _ ?_ _))
      exact fun _ => rfl
  · exact .refl

theorem abortTransmission_run (s : State) : SlotRun offered s (abortTransmission s) := by
  unfold abortTransmission
  split
  · exact .refl
  · exact Quiet.run rfl
  · exact Quiet.run rfl
  · exact Quiet.run rfl
  · refine .of_quiet ?_ (returnHold_run _)
    rfl

theorem linkDown_run (s : State) : SlotRun offered s (linkDown s) :=
  (abortTransmission_run s).trans (Quiet.run rfl)

theorem controlEnded_run (s : State) (e : ControlEntry) : SlotRun offered s (controlEnded s e) := by
  unfold controlEnded
  split
  · split
    · exact .single (.reset s _)
    · exact .refl
  · exact .refl

theorem loseCarrier_run (s : State) : SlotRun offered s (loseCarrier s) := by
  unfold loseCarrier
  split
  · exact (linkDown_run s).trans (controlEnded_run _ _)
  · exact linkDown_run s

theorem completeControl_run (s : State) : SlotRun offered s (completeControl s) := by
  unfold completeControl
  split
  · refine .of_quiet ?_ (controlEnded_run _ _)
    rfl
  · exact .refl

theorem expireReset_run (s : State) : SlotRun offered s (expireReset s) := by
  unfold expireReset
  split
  · split
    · exact .single (.reset s _)
    · exact .refl
  · exact .refl

theorem performReset_full_quiet (s : State) : Quiet (performReset s .full) (resetValues s) := by
  simp only [Quiet, State.bundleView, State.descriptors, performReset]

/-- A pin reset leaves the Slot Table and the bundles as a reset at level FULL does. -/
theorem pinReset_run (h : Quiet (resetValues s) t) : SlotRun offered s t :=
  .head (.reset s .full) ((performReset_full_quiet s).trans h).run

/-- The drain timer's expiry discards every CLOSED slot and ends DRAINING (R64, R149). -/
theorem expireDrain_run (s : State) : SlotRun offered s (expireDrain s) := by
  unfold expireDrain
  split
  · rename_i draining _
    split
    · dsimp only
      generalize hu : raise (discardClosed s) _ = u
      have raised : Quiet (discardClosed s) u := hu ▸ raise_quiet _ _
      exact .head (.discard draining) (raised.quiesced.trans (endDrain_quiet u _ _)).run
    · exact .refl
  · exact .refl

/-! ### Requests -/

/-- A request's own effect is a run; the Reply Cache, the reply and the counters add nothing to it (R136). -/
theorem takeRequest_run {run : State → Execution} (h : ∀ u, SlotRun offered u (run u).state) (s : State)
    (id : Word16) (code : Byte) : SlotRun offered s (takeRequest s id code run) := by
  unfold takeRequest
  split
  · exact Quiet.run rfl
  · split
    · dsimp only
      split <;> exact Quiet.run rfl
    · dsimp only
      generalize accepted : ({ s with
        mgmt := { s.mgmt with executed := bump s.mgmt.executed }
        replyCache := evictOldestDone s.replyCache } : State) = u
      have taken : Quiet s u := accepted ▸ rfl
      refine taken.run.trans ((h u).trans ?_)
      split <;> exact Quiet.run rfl

theorem LeadsFrom.command {run : State → Execution} (h : ∀ u, SlotRun offered u (run u).state) (s : State)
    (id : Word16) (code : Byte) : LeadsFrom offered s (command s id code run) :=
  .live (received_run (takeRequest_run h s id code))

theorem quiesceRun_run (s : State) (timeout : Word16) : SlotRun offered s (quiesceRun s timeout).state := by
  unfold quiesceRun
  split
  · rename_i idle
    exact .single (.rest idle)
  · rename_i busy
    exact .head (.drain (Bool.eq_false_iff.mpr busy)) (Quiet.run rfl)

/-! ### The commands -/

/-- A record that waits in an Intake FIFO of `s`. -/
def waitingIn (s : State) (r : TakenRecord) : Prop := r.record ∈ s.ports[r.port].fifo

end Runs

section Commands

variable {offered : TakenRecord → Prop}

theorem execCarrierLoss_leads (s : State) : LeadsFrom offered s (execCarrierLoss s) := by
  refine .next ?_
  split
  · exact .refl
  · split
    · exact Quiet.run rfl
    · exact loseCarrier_run s

theorem execCarrierGain_leads (s : State) : LeadsFrom offered s (execCarrierGain s) := by
  refine .next ?_
  split
  · exact .refl
  · split <;> exact Quiet.run rfl

theorem execBundleAck_leads (seq : Word16) (s : State) : LeadsFrom offered s (execBundleAck seq s) := by
  refine .live (received_run ?_)
  exact takeAck_run s seq

theorem execBundleNak_leads (seq : Word16) (s : State) : LeadsFrom offered s (execBundleNak seq s) := by
  refine .live (received_run ?_)
  exact takeNak_run s seq

theorem execDispatch_leads (seq : Word16) (entries : List DispatchEntry) (s : State) :
    LeadsFrom offered s (execDispatch seq entries s) := by
  refine .live ?_
  split
  · exact received_run (takeDispatch_quiet s seq entries).run
  · exact (countBadLength_quiet s).run

theorem execPinResetComplete_leads (straps : BitVec 4) (s : State) :
    LeadsFrom offered s (execPinResetComplete straps s) := by
  refine .next ?_
  split
  · refine .of_quiet ?_ (pinReset_run (Quiet.refl _))
    rfl
  · exact .refl

theorem execReadPort_leads (id : Word16) (port : Byte) (s : State) :
    LeadsFrom offered s (execReadPort id port s) := by
  refine .command (fun u => ?_) s id codeReadPort
  split <;> exact .refl

theorem execSetConfig_leads (id : Word16) (record : ConfigRecord) (s : State) :
    LeadsFrom offered s (execSetConfig id record s) := by
  refine .command (fun u => ?_) s id codeSetConfig
  split
  · exact .refl
  · split
    · exact .refl
    · exact Quiet.run rfl

theorem execWriteMatch_leads (id : Word16) (index : Byte) (record : MatchRecord) (s : State) :
    LeadsFrom offered s (execWriteMatch id index record s) := by
  refine .command (fun u => ?_) s id codeWriteMatch
  split
  · exact Quiet.run rfl
  · exact .refl

theorem execReadMatch_leads (id : Word16) (index bank : Byte) (s : State) :
    LeadsFrom offered s (execReadMatch id index bank s) := by
  refine .command (fun u => ?_) s id codeReadMatch
  split <;> exact .refl

theorem execCommitMatch_leads (id : Word16) (s : State) : LeadsFrom offered s (execCommitMatch id s) := by
  refine .command (fun u => ?_) s id codeCommitMatch
  exact Quiet.run rfl

/-- A profile record in range stands for a route profile in range (R32, R33). -/
theorem profileOf_inRange {r : ProfileRecord} (h : profileInRange r = true) : ProfileInRange (profileOf r) := by
  obtain ⟨_, _, records, records', bytes, bytes', _⟩ := (profileInRange_iff r).mp h
  exact ⟨records, records', bytes, bytes'⟩

theorem execWriteProfile_leads (id : Word16) (profile : Byte) (record : ProfileRecord) (s : State) :
    LeadsFrom offered s (execWriteProfile id profile record s) := by
  refine .command (fun u => ?_) s id codeWriteProfile
  split
  · rename_i range
    exact .head (.writeProfile u _ (profileOf_inRange range.2)) ((closeProfile_run _ _ _).trans (tryHeldFor_run _ _))
  · exact .refl

theorem execReadProfile_leads (id : Word16) (profile : Byte) (s : State) :
    LeadsFrom offered s (execReadProfile id profile s) := by
  refine .command (fun u => ?_) s id codeReadProfile
  split <;> exact .refl

theorem execWriteTemplate_leads (id : Word16) (template length : Byte) (bytes : List Byte) (s : State) :
    LeadsFrom offered s (execWriteTemplate id template length bytes s) := by
  unfold execWriteTemplate
  split
  · rename_i declared
    have declared : bytes.length = length.toNat := of_decide_eq_true declared
    refine .command (fun u => ?_) s id codeWriteTemplate
    split
    · rename_i range
      exact .single (.writeTemplate u _ (declared.trans_le range.2))
    · exact .refl
  · exact .live (countBadLength_quiet s).run

theorem execReadTemplate_leads (id : Word16) (template : Byte) (s : State) :
    LeadsFrom offered s (execReadTemplate id template s) := by
  refine .command (fun u => ?_) s id codeReadTemplate
  split <;> exact .refl

theorem execFlush_leads (id : Word16) (profile : Byte) (s : State) : LeadsFrom offered s (execFlush id profile s) := by
  refine .command (fun u => ?_) s id codeFlush
  split
  · exact closeAll_run u _
  · split
    · exact closeProfile_run u _ _
    · exact .refl

theorem execQuiesce_leads (id : Word16) (timeout : Word16) (s : State) :
    LeadsFrom offered s (execQuiesce id timeout s) := by
  refine .command (fun u => ?_) s id codeQuiesce
  split
  · exact .refl
  · split
    · exact quiesceRun_run u timeout
    · exact .refl
    · exact .refl

theorem execResume_leads (id : Word16) (s : State) : LeadsFrom offered s (execResume id s) := by
  refine .command (fun u => ?_) s id codeResume
  split
  · rename_i quiesced
    exact .head (.resume quiesced) (.single (.trial _))
  · exact .refl
  · exact .refl

theorem execPortControl_leads (id : Word16) (port enable bitRate maxLen : Byte) (s : State) :
    LeadsFrom offered s (execPortControl id port enable bitRate maxLen s) := by
  refine .command (fun u => ?_) s id codePortControl
  split
  · exact .refl
  · split
    · exact (controlPort_quiet u _ _ _ _).run
    · exact .refl

theorem execReadCounters_leads (id : Word16) (group port first count clear : Byte) (s : State) :
    LeadsFrom offered s (execReadCounters id group port first count clear s) := by
  refine .command (fun u => ?_) s id codeReadCounters
  split
  · exact .refl
  · rename_i g _
    dsimp only
    split
    · change SlotRun offered u (if clear = 1 then clearGroup u g else u)
      split
      · exact (clearGroup_quiet u g).run
      · exact .refl
    · exact .refl

theorem execResetPart_leads (id : Word16) (level : Byte) (s : State) :
    LeadsFrom offered s (execResetPart id level s) := by
  refine .command (fun u => ?_) s id codeResetPart
  split
  · exact .refl
  · split
    · exact .refl
    · exact Quiet.run rfl

theorem execUnknownCommand_leads (id : Word16) (code : Byte) (params : List Byte) (s : State) :
    LeadsFrom offered s (execUnknownCommand id code params s) := by
  unfold execUnknownCommand
  split
  · exact .live (countBadLength_quiet s).run
  · split
    · exact .command (fun _ => .refl) s id code
    · exact .next .refl

end Commands

/-- Every command is a run of the changes above, and offers the Slot Table only records that waited in an Intake FIFO. -/
theorem exec_leads (c : Instr) (s : State) : LeadsFrom (waitingIn s) s (exec c s) := by
  cases c with
  | characterArrival p v framing => exact .live (takeCharacter_quiet s p v framing).run
  | byteGapTimerExpiry p => exact .live (byteGapExpiry_quiet s p).run
  | classifierTake => exact .live (classifierTake_run fun _ _ mem => mem)
  | idleTimeout n => exact .live (idleExpiry_run s n)
  | ageTimeout n => exact .live (ageExpiry_run s n)
  | slotMove cls => exact .live (.single (.move s cls))
  | startHistoryAgeing => exact .live (ageHistory_quiet s).run
  | helloStart => exact .live (startHello_quiet s).run
  | helloComplete => exact .live (completeHello_quiet s).run
  | controlFrameStart => exact .live (startControl_quiet s).run
  | controlFrameComplete => exact .live (completeControl_run s)
  | eventFrameStart => exact .live (startEvent_quiet s).run
  | eventFrameComplete => exact .live (completeEvent_quiet s).run
  | firstTransmissionStart => exact .live (startFirst_run s)
  | retransmissionStart => exact .live (startRetransmission_quiet s).run
  | retryCheckAtLimit => exact .live (retryCheck_quiet s).run
  | bundleTransmissionComplete => exact .live (completeBundle_run s)
  | ackTimerExpiry => exact .live (expireAck_quiet s).run
  | helloTimerExpiry => exact .live (expireHello_quiet s).run
  | carrierLoss => exact execCarrierLoss_leads s
  | carrierGain => exact execCarrierGain_leads s
  | trunkFrameDiscard frame => exact .live (discardFrame_quiet s frame).run
  | sync => exact .live (takeSync_quiet s).run
  | bundleAck seq => exact execBundleAck_leads seq s
  | bundleNak seq => exact execBundleNak_leads seq s
  | dispatch seq entries => exact execDispatch_leads seq entries s
  | fieldFrameComplete p => exact .live (fieldFrameDone_quiet s p).run
  | identify id => exact .command (fun _ => .refl) s id codeIdentify
  | readStatus id => exact .command (fun _ => .refl) s id codeReadStatus
  | readSlots id => exact .command (fun _ => .refl) s id codeReadSlots
  | getConfig id => exact .command (fun _ => .refl) s id codeGetConfig
  | setConfig id record => exact execSetConfig_leads id record s
  | writeMatch id index record => exact execWriteMatch_leads id index record s
  | readMatch id index bank => exact execReadMatch_leads id index bank s
  | commitMatch id => exact execCommitMatch_leads id s
  | writeProfile id profile record => exact execWriteProfile_leads id profile record s
  | readProfile id profile => exact execReadProfile_leads id profile s
  | writeTemplate id template length bytes => exact execWriteTemplate_leads id template length bytes s
  | readTemplate id template => exact execReadTemplate_leads id template s
  | flush id profile => exact execFlush_leads id profile s
  | quiesce id timeout => exact execQuiesce_leads id timeout s
  | resume id => exact execResume_leads id s
  | portControl id port enable bitRate maxLen => exact execPortControl_leads id port enable bitRate maxLen s
  | readPort id port => exact execReadPort_leads id port s
  | readCounters id group port first count clear => exact execReadCounters_leads id group port first count clear s
  | resetPart id level => exact execResetPart_leads id level s
  | unknownCommand id code params => exact execUnknownCommand_leads id code params s
  | drainTimerExpiry => exact .live (expireDrain_run s)
  | resetDeadline => exact .live (expireReset_run s)
  | powerOn => exact .next (pinReset_run rfl)
  | resetNAsserted => exact .next (pinReset_run rfl)
  | pinResetComplete straps => exact execPinResetComplete_leads straps s

/-- So is every step. -/
theorem step_slotRun {s t : State} (h : step s = .next t) : SlotRun (waitingIn s) s t := by
  unfold step at h
  split at h
  · cases h
    exact (tick_quiet s).run
  · rename_i c rest _
    refine .of_quiet ?_ (exec_leads c { s with pending := rest } t h)
    rfl

end Sys2Proof.Machine
end

section
/-! Proofs: what a close, an opening, an append, a vacated slot and a placement leave in each slot and in the lists of the Slot Table (R48, R55 to R58, R63, R64). -/

namespace Sys2Proof.Machine

open Safety

/-! ### A close (R48) -/

section Close

variable {s : State} {n : SlotNo} {b : Bundle} {idle age : Option PartTime}

theorem closeSlot_slots (h : s.slots[n] = .opened b idle age) (cause : CloseCause) (m : SlotNo) :
    (closeSlot s n cause).slots[m] = if m = n then .closed b cause (queueClassOf b cause) else s.slots[m] := by
  rw [closeSlot_opened h, ← State.setSlot_get]
  simp

theorem closeSlot_openOrder (h : s.slots[n] = .opened b idle age) (cause : CloseCause) :
    (closeSlot s n cause).openOrder = s.openOrder.erase n := by
  rw [closeSlot_opened h]

theorem closeSlot_closeOrder (h : s.slots[n] = .opened b idle age) (cause : CloseCause) (cls : BundleClass) :
    (closeSlot s n cause).closeOrder cls =
      if queueClassOf b cause = cls then s.closeOrder cls ++ [n] else s.closeOrder cls := by
  rw [closeSlot_opened h]
  generalize queueClassOf b cause = c
  cases c <;> cases cls <;> rfl

theorem closeSlot_evictionMark (s : State) (n : SlotNo) (cause : CloseCause) :
    (closeSlot s n cause).evictionMark = s.evictionMark := by
  unfold closeSlot
  split
  · dsimp only
    rw [State.setCloseOrder_evictionMark]
    rfl
  · rfl

end Close

/-- A slot is OPEN exactly when it holds an open bundle with its deadlines. -/
theorem slotOpen_iff (x : Slot) : slotOpen x = true ↔ ∃ b idle age, x = .opened b idle age := by
  cases x <;> simp [slotOpen]

/-- A claim to close makes no slot IDLE, and none that was IDLE otherwise. -/
theorem closeSlot_idle_iff (s : State) (n : SlotNo) (cause : CloseCause) (m : SlotNo) :
    (closeSlot s n cause).slots[m] = .idle ↔ s.slots[m] = .idle := by
  by_cases opened : slotOpen s.slots[n] = true
  · obtain ⟨b, idle, age, h⟩ := (slotOpen_iff _).mp opened
    rw [closeSlot_slots h]
    split
    · rename_i same
      simp [same, h]
    · rfl
  · rw [closeSlot_of_not_open (Bool.eq_false_iff.mpr opened)]

/-! ### What a placement finds (R52, R54, R56) -/

theorem mem_slotNos (n : SlotNo) : n ∈ slotNos := by
  revert n
  decide

theorem allIdle_iff (s : State) : s.allIdle = true ↔ ∀ n : SlotNo, s.slots[n] = .idle := by
  simp [State.allIdle, mem_slotNos]

theorem lowestIdle_eq_some {s : State} {n : SlotNo} (h : s.lowestIdle = some n) : s.slots[n] = .idle :=
  of_decide_eq_true (List.find?_some h :)

theorem openSlotOf_eq_some {s : State} {p : Fin 32} {n : SlotNo} {b : Bundle} {age : Option PartTime}
    (h : s.openSlotOf p = some (n, b, age)) : ∃ idle, s.slots[n] = .opened b idle age ∧ b.snapshot.profile = p := by
  obtain ⟨m, _, found⟩ := List.exists_of_findSome?_eq_some h
  split at found
  · rename_i b' idle age' hs
    split at found
    · rename_i profile
      cases found
      exact ⟨idle, hs, profile⟩
    · cases found
  · cases found

theorem openSlotOf_eq_none {s : State} {p : Fin 32} (h : s.openSlotOf p = none) (n : SlotNo) :
    openProfile s.slots[n] ≠ some p := by
  have passed := List.findSome?_eq_none_iff.mp h n (mem_slotNos n)
  cases hs : s.slots[n] with
  | idle => exact nofun
  | closed b cause cls => exact nofun
  | opened b idle age =>
    rw [hs] at passed
    intro profile
    have profile : b.snapshot.profile = p := Option.some.inj profile
    simp [profile] at passed

/-! ### What placements and closes leave as it is -/

section Reach

variable {s t : State}

theorem BuildReach.opState (h : BuildReach s t) : t.opState = s.opState := by
  rw [h]
  rfl

theorem BuildReach.hold (h : BuildReach s t) : t.hold = s.hold := by
  rw [h]
  rfl

theorem BuildReach.profiles (h : BuildReach s t) : t.profiles = s.profiles := by
  rw [h]
  rfl

theorem BuildReach.templates (h : BuildReach s t) : t.templates = s.templates := by
  rw [h]
  rfl

theorem BuildReach.descriptors (h : BuildReach s t) : t.descriptors = s.descriptors := by
  rw [h]
  rfl

end Reach

/-! ### A slot that becomes IDLE (R63, R64) -/

/-- A CLOSED slot made IDLE: out of its Close Order List, and no longer the one the eviction mark names. -/
def vacate (s : State) (n : SlotNo) (cls : BundleClass) : State :=
  { (s.setCloseOrder cls ((s.closeOrder cls).erase n)).setSlot n .idle with
    evictionMark := if s.evictionMark = some n then none else s.evictionMark }

theorem vacate_slots (s : State) (n : SlotNo) (cls : BundleClass) (m : SlotNo) :
    (vacate s n cls).slots[m] = if m = n then .idle else s.slots[m] := by
  rw [← State.setSlot_get]
  simp [vacate]

theorem vacate_openOrder (s : State) (n : SlotNo) (cls : BundleClass) : (vacate s n cls).openOrder = s.openOrder := by
  simp [vacate]

theorem vacate_closeOrder (s : State) (n : SlotNo) (cls c : BundleClass) :
    (vacate s n cls).closeOrder c = if c = cls then (s.closeOrder c).erase n else s.closeOrder c := by
  cases cls <;> cases c <;> rfl

theorem vacate_evictionMark (s : State) (n : SlotNo) (cls : BundleClass) :
    (vacate s n cls).evictionMark = if s.evictionMark = some n then none else s.evictionMark := rfl

theorem vacate_hold (s : State) (n : SlotNo) (cls : BundleClass) : (vacate s n cls).hold = s.hold := by
  simp [vacate]

theorem vacate_opState (s : State) (n : SlotNo) (cls : BundleClass) : (vacate s n cls).opState = s.opState := by
  simp [vacate]

/-- Outside RUN no held record is tried. -/
theorem tryHeld_of_not_run {s : State} (h : s.opState ≠ .run) : tryHeld s = s := by
  unfold tryHeld
  split
  · rename_i run _
    exact absurd run h
  · rfl

theorem giveBack_quiet_of_not_run {s : State} (h : s.opState ≠ .run) (chain : List BlockNo) :
    Quiet s (giveBack s chain) := by
  have returned := returnChain_quiet s chain
  unfold giveBack
  rw [tryHeld_of_not_run (returned.opState ▸ h)]
  exact returned

theorem vacate_quiet {s t : State} (h : Quiet s t) (n : SlotNo) (cls : BundleClass) :
    Quiet (vacate s n cls) (vacate t n cls) := by
  cases cls
  · have same := congrArg (fun v : BundleView => { v with
      slots := v.slots.set n.val .idle n.isLt
      closeExpress := v.closeExpress.erase n
      evictionMark := if v.evictionMark = some n then none else v.evictionMark }) h
    exact same
  · have same := congrArg (fun v : BundleView => { v with
      slots := v.slots.set n.val .idle n.isLt
      closeBulk := v.closeBulk.erase n
      evictionMark := if v.evictionMark = some n then none else v.evictionMark }) h
    exact same

/-- The discard of a CLOSED slot gives its chain back and leaves it vacated (R64). -/
theorem discardSlot_of_closed {s : State} {n : SlotNo} {b : Bundle} {cause : CloseCause} {cls : BundleClass}
    (closed : s.slots[n] = .closed b cause cls) : Quiet (vacate (giveBack s b.chain) n cls) (discardSlot s n) := by
  unfold discardSlot
  rw [closed]
  cases cls <;> rfl

theorem discardSlot_of_not_closed {s : State} {n : SlotNo} (h : ∀ b cause cls, s.slots[n] ≠ .closed b cause cls) :
    discardSlot s n = s := by
  unfold discardSlot
  split
  · rename_i closed
    exact absurd closed (h _ _ _)
  · rfl

/-- A move takes the head of a Close Order List out of the Slot Table, or changes nothing (R63). -/
theorem moveHead_cases (s : State) (cls : BundleClass) :
    moveHead s cls = s ∨ ∃ n rest b cause qc,
      s.closeOrder cls = n :: rest ∧ s.slots[n] = .closed b cause qc
        ∧ moveHead s cls =
          slotBecameIdle ((vacate s n cls).setQueue cls (s.queue cls ++ [descriptorOf b cause qc])) := by
  unfold moveHead
  split
  · exact .inl rfl
  · rename_i n rest order
    split
    · exact .inl rfl
    · split
      · rename_i b cause qc closed
        refine .inr ⟨n, rest, b, cause, qc, order, closed, ?_⟩
        have gone : (s.closeOrder cls).erase n = rest := by rw [order, List.erase_cons_head]
        unfold vacate
        rw [gone]
        cases cls <;> rfl
      · exact .inl rfl

end Sys2Proof.Machine
end

section
/-! Proofs: every step keeps the law of the Slot Table (R50, R51, R52, R57, R61). -/

namespace Sys2Proof.Machine

open Safety

/-! ### Lists, slots and mark agree -/

/-- What a placement keeps by itself: the lists agree with the slots, one slot at most is OPEN for a profile id, and the eviction mark names an evicted slot. While a record is being placed it may stand in no FIFO and not yet in the hold stage, so that the mark's record is left out here. -/
structure TableAgrees (s : State) : Prop where
  openOrder_nodup : s.openOrder.Nodup
  openOrder_iff : ∀ n : SlotNo, n ∈ s.openOrder ↔ slotOpen s.slots[n] = true
  closeOrder_nodup : ∀ cls, (s.closeOrder cls).Nodup
  closeOrder_iff : ∀ cls, ∀ n : SlotNo, n ∈ s.closeOrder cls ↔ slotClosedFor cls s.slots[n] = true
  one_open : ∀ (n m : SlotNo) (p : Fin 32),
    openProfile s.slots[n] = some p → openProfile s.slots[m] = some p → n = m
  mark_evicted : ∀ n, s.evictionMark = some n → slotEvicted s.slots[n] = true

/-- The law of the Slot Table is that agreement, with what it says of the operating state and of the hold stage. -/
theorem slotTableSound_iff (s : State) :
    SlotTableSound s ↔ TableAgrees s ∧ (s.openOrder ≠ [] → s.opState = .run)
      ∧ (s.evictionMark ≠ none → s.hold ≠ none) ∧ (s.opState = .draining → s.allIdle = false) := by
  constructor
  · intro h
    refine ⟨⟨h.openOrder_nodup, h.openOrder_iff, h.closeOrder_nodup, h.closeOrder_iff, h.one_open,
      fun n hn => (h.mark_evicted n hn).1⟩, h.open_in_run, fun marked => ?_, h.drain_waits⟩
    obtain ⟨n, hn⟩ := Option.ne_none_iff_exists'.mp marked
    exact Option.isSome_iff_ne_none.mp (h.mark_evicted n hn).2
  · rintro ⟨agrees, open_in_run, mark_held, drain_waits⟩
    exact
      { openOrder_nodup := agrees.openOrder_nodup
        openOrder_iff := agrees.openOrder_iff
        closeOrder_nodup := agrees.closeOrder_nodup
        closeOrder_iff := agrees.closeOrder_iff
        one_open := agrees.one_open
        open_in_run := open_in_run
        mark_evicted := fun n hn => ⟨agrees.mark_evicted n hn,
          Option.isSome_iff_ne_none.mpr (mark_held (hn ▸ nofun))⟩
        drain_waits := drain_waits }

theorem tableAgrees_of_sound {s : State} (h : SlotTableSound s) : TableAgrees s := ((slotTableSound_iff s).mp h).1

section Agrees

variable {s t : State}

/-- Only slots, lists and mark matter, and of the mark only that it names an evicted slot. -/
theorem TableAgrees.remark (h : TableAgrees s) (slots : t.slots = s.slots) (openOrder : t.openOrder = s.openOrder)
    (closeOrder : ∀ cls, t.closeOrder cls = s.closeOrder cls)
    (mark : ∀ n, t.evictionMark = some n → slotEvicted s.slots[n] = true) : TableAgrees t where
  openOrder_nodup := openOrder ▸ h.openOrder_nodup
  openOrder_iff := fun n => by rw [openOrder, slots]; exact h.openOrder_iff n
  closeOrder_nodup := fun cls => closeOrder cls ▸ h.closeOrder_nodup cls
  closeOrder_iff := fun cls n => by rw [closeOrder, slots]; exact h.closeOrder_iff cls n
  one_open := slots ▸ h.one_open
  mark_evicted := fun n hn => by rw [slots]; exact mark n hn

theorem TableAgrees.congr (h : TableAgrees s) (slots : t.slots = s.slots) (openOrder : t.openOrder = s.openOrder)
    (closeOrder : ∀ cls, t.closeOrder cls = s.closeOrder cls) (mark : t.evictionMark = s.evictionMark) :
    TableAgrees t :=
  h.remark slots openOrder closeOrder fun n hn => h.mark_evicted n (mark ▸ hn)

theorem TableAgrees.of_quiet (h : TableAgrees s) (same : Quiet s t) : TableAgrees t :=
  h.congr same.slots same.openOrder same.closeOrder same.evictionMark

/-- One slot replaced: the lists must follow it at its number and stay as they are at every other, no other slot may be OPEN for its profile id, and the mark may not come to name another slot. -/
theorem TableAgrees.replace (h : TableAgrees s) {n : SlotNo} {x : Slot}
    (slots : ∀ m : SlotNo, t.slots[m] = if m = n then x else s.slots[m])
    (openNodup : t.openOrder.Nodup) (closeNodup : ∀ cls, (t.closeOrder cls).Nodup)
    (openOrder : ∀ m, m ∈ t.openOrder ↔ if m = n then slotOpen x = true else m ∈ s.openOrder)
    (closeOrder : ∀ cls m,
      m ∈ t.closeOrder cls ↔ if m = n then slotClosedFor cls x = true else m ∈ s.closeOrder cls)
    (free : ∀ p, openProfile x = some p → ∀ m : SlotNo, m ≠ n → openProfile s.slots[m] ≠ some p)
    (mark : ∀ m, t.evictionMark = some m → m ≠ n ∧ s.evictionMark = some m) : TableAgrees t where
  openOrder_nodup := openNodup
  openOrder_iff := fun m => by
    rw [openOrder, slots]
    split
    · rfl
    · exact h.openOrder_iff m
  closeOrder_nodup := closeNodup
  closeOrder_iff := fun cls m => by
    rw [closeOrder, slots]
    split
    · rfl
    · exact h.closeOrder_iff cls m
  one_open := fun a b p ha hb => by
    rw [slots] at ha hb
    split at ha <;> rename_i an
    · split at hb <;> rename_i bn
      · exact an.trans bn.symm
      · exact absurd hb (free p ha b bn)
    · split at hb <;> rename_i bn
      · exact absurd ha (free p hb a an)
      · exact h.one_open a b p ha hb
  mark_evicted := fun m hm => by
    obtain ⟨other, marked⟩ := mark m hm
    rw [slots, if_neg other]
    exact h.mark_evicted m marked

/-- The slot that the mark names is CLOSED. -/
theorem TableAgrees.mark_ne (h : TableAgrees s) {n m : SlotNo} (hm : s.evictionMark = some m)
    (here : slotEvicted s.slots[n] = false) : m ≠ n := by
  rintro rfl
  rw [h.mark_evicted m hm] at here
  cases here

/-! ### The operations on one slot -/

theorem TableAgrees.closeSlot (h : TableAgrees s) (n : SlotNo) (cause : CloseCause) :
    TableAgrees (closeSlot s n cause) := by
  by_cases opened : slotOpen s.slots[n] = true
  · obtain ⟨b, idle, age, hs⟩ := (slotOpen_iff _).mp opened
    have absent (cls : BundleClass) : n ∉ s.closeOrder cls := by
      rw [h.closeOrder_iff, hs]
      exact nofun
    refine h.replace (closeSlot_slots hs cause) ?_ ?_ ?_ ?_ nofun ?_
    · rw [closeSlot_openOrder hs]
      exact h.openOrder_nodup.erase n
    · intro cls
      rw [closeSlot_closeOrder hs]
      split
      · exact List.Nodup.append (h.closeOrder_nodup cls) (List.nodup_singleton n)
          (List.disjoint_singleton.mpr (absent cls))
      · exact h.closeOrder_nodup cls
    · intro m
      rw [closeSlot_openOrder hs, h.openOrder_nodup.mem_erase_iff]
      split <;> simp_all [slotOpen]
    · intro cls m
      rw [closeSlot_closeOrder hs]
      by_cases same : m = n <;> by_cases ofClass : queueClassOf b cause = cls <;>
        simp [same, ofClass, slotClosedFor, absent]
    · intro m hm
      rw [closeSlot_evictionMark] at hm
      exact ⟨h.mark_ne hm (by rw [hs]; rfl), hm⟩
  · rw [closeSlot_of_not_open (Bool.eq_false_iff.mpr opened)]
    exact h

/-- An IDLE slot becomes OPEN for a profile id that no other slot is OPEN for (R56). -/
theorem TableAgrees.opens (h : TableAgrees s) {n : SlotNo} {b : Bundle} (vacant : s.slots[n] = .idle)
    (free : ∀ m : SlotNo, openProfile s.slots[m] ≠ some b.snapshot.profile) (mem : Memory)
    (idle age : Option PartTime) :
    TableAgrees
      (({ s with blockMem := mem, openOrder := s.openOrder ++ [n] } : State).setSlot n (.opened b idle age)) := by
  have absent : n ∉ s.openOrder := by
    rw [h.openOrder_iff, vacant]
    exact nofun
  have unclosed (cls : BundleClass) : n ∉ s.closeOrder cls := by
    rw [h.closeOrder_iff, vacant]
    exact nofun
  have orders (cls : BundleClass) :
      ({ s with blockMem := mem, openOrder := s.openOrder ++ [n] } : State).closeOrder cls = s.closeOrder cls :=
    closeOrder_congr rfl rfl cls
  refine h.replace (State.setSlot_get _ n · _) ?_ ?_ ?_ ?_ ?_ ?_
  · exact List.Nodup.append h.openOrder_nodup (List.nodup_singleton n) (List.disjoint_singleton.mpr absent)
  · intro cls
    rw [State.setSlot_closeOrder, orders]
    exact h.closeOrder_nodup cls
  · intro m
    simp only [State.setSlot_openOrder, List.mem_append, List.mem_singleton]
    split <;> simp_all [slotOpen]
  · intro cls m
    rw [State.setSlot_closeOrder, orders]
    have := unclosed cls
    split <;> simp_all [slotClosedFor]
  · intro p hp m _
    have hp : b.snapshot.profile = p := Option.some.inj hp
    exact hp ▸ free m
  · intro m hm
    have hm : s.evictionMark = some m := hm
    exact ⟨h.mark_ne hm (by rw [vacant]; rfl), hm⟩

/-- An OPEN slot's bundle changes and keeps its snapshot (R55). -/
theorem TableAgrees.grows (h : TableAgrees s) {n : SlotNo} {b b' : Bundle} {idle age : Option PartTime}
    (opened : s.slots[n] = .opened b idle age) (same : b'.snapshot = b.snapshot) (mem : Memory)
    (idle' age' : Option PartTime) :
    TableAgrees (({ s with blockMem := mem } : State).setSlot n (.opened b' idle' age')) := by
  have present : n ∈ s.openOrder := by
    rw [h.openOrder_iff, opened]
    rfl
  have unclosed (cls : BundleClass) : n ∉ s.closeOrder cls := by
    rw [h.closeOrder_iff, opened]
    exact nofun
  have orders (cls : BundleClass) : ({ s with blockMem := mem } : State).closeOrder cls = s.closeOrder cls :=
    closeOrder_congr rfl rfl cls
  refine h.replace (State.setSlot_get _ n · _) ?_ ?_ ?_ ?_ ?_ ?_
  · exact h.openOrder_nodup
  · intro cls
    rw [State.setSlot_closeOrder, orders]
    exact h.closeOrder_nodup cls
  · intro m
    rw [State.setSlot_openOrder]
    split <;> simp_all [slotOpen]
  · intro cls m
    rw [State.setSlot_closeOrder, orders]
    have := unclosed cls
    split <;> simp_all [slotClosedFor]
  · intro p hp m other hm
    have hn : openProfile s.slots[n] = some p := by
      rw [opened, ← hp]
      exact congrArg (fun x : Snapshot => some x.profile) same.symm
    exact other (h.one_open m n p hm hn)
  · intro m hm
    have hm : s.evictionMark = some m := hm
    exact ⟨h.mark_ne hm (by rw [opened]; rfl), hm⟩

/-- A CLOSED slot becomes IDLE (R63, R64). -/
theorem TableAgrees.vacate (h : TableAgrees s) {n : SlotNo} {b : Bundle} {cause : CloseCause} {cls : BundleClass}
    (closed : s.slots[n] = .closed b cause cls) : TableAgrees (vacate s n cls) := by
  have unopened : n ∉ s.openOrder := by
    rw [h.openOrder_iff, closed]
    exact nofun
  have elsewhere (c : BundleClass) (other : c ≠ cls) : n ∉ s.closeOrder c := by
    rw [h.closeOrder_iff, closed]
    simpa [slotClosedFor] using other.symm
  refine h.replace (vacate_slots s n cls) ?_ ?_ ?_ ?_ nofun ?_
  · rw [vacate_openOrder]
    exact h.openOrder_nodup
  · intro c
    rw [vacate_closeOrder]
    split
    · exact (h.closeOrder_nodup c).erase n
    · exact h.closeOrder_nodup c
  · intro m
    rw [vacate_openOrder]
    split <;> simp_all [slotOpen]
  · intro c m
    rw [vacate_closeOrder]
    have := elsewhere c
    have := (h.closeOrder_nodup c).mem_erase_iff (a := m) (b := n)
    split <;> split <;> simp_all [slotClosedFor]
  · intro m hm
    rw [vacate_evictionMark] at hm
    split at hm
    · cases hm
    · rename_i other
      exact ⟨fun same => other (same ▸ hm), hm⟩

/-! ### A placement (R54) -/

theorem TableAgrees.postAppend (h : TableAgrees s) (n : SlotNo) (r : TakenRecord) :
    TableAgrees (postAppend s n r) := by
  unfold Machine.postAppend
  split
  · exact h.closeSlot n _
  · split
    · exact h.closeSlot n _
    · split
      · split
        · exact h.closeSlot n _
        · exact h
      · exact h

theorem TableAgrees.appendEntry (h : TableAgrees s) {n : SlotNo} {b : Bundle} {idle age : Option PartTime}
    (opened : s.slots[n] = .opened b idle age) (r : TakenRecord) (blocks : List BlockNo) :
    TableAgrees (appendEntry s n b age r blocks) := by
  refine TableAgrees.postAppend ?_ n r
  refine h.grows opened ?_ _ _ _
  rfl

theorem TableAgrees.openSlot (h : TableAgrees s) {n : SlotNo} {p : Fin 32} (vacant : s.slots[n] = .idle)
    (free : ∀ m : SlotNo, openProfile s.slots[m] ≠ some p) (r : TakenRecord) (blocks : List BlockNo) :
    TableAgrees (openSlot s n p r blocks) := by
  refine TableAgrees.postAppend ?_ n r
  exact h.opens vacant free _ _ _

/-- An eviction sets the mark on the slot it has closed (R57). -/
theorem TableAgrees.startEviction (h : TableAgrees s) : TableAgrees (startEviction s) := by
  unfold Machine.startEviction
  split
  · rename_i n rest _ order
    have mem : n ∈ s.openOrder := order ▸ List.mem_cons_self
    obtain ⟨b, idle, age, hs⟩ := (slotOpen_iff _).mp ((h.openOrder_iff n).mp mem)
    have closed := h.closeSlot n .evicted
    have evicted : (Machine.closeSlot s n .evicted).slots[n] = .closed b .evicted (queueClassOf b .evicted) := by
      rw [closeSlot_slots hs, if_pos rfl]
    refine closed.remark rfl rfl (closeOrder_congr rfl rfl) fun m hm => ?_
    cases hm
    exact (congrArg slotEvicted evicted :)
  · exact h

theorem TableAgrees.placeNew (h : TableAgrees s) {p : Fin 32} (free : ∀ m : SlotNo, openProfile s.slots[m] ≠ some p)
    (r : TakenRecord) : TableAgrees (placeNew s p r).1 := by
  unfold Machine.placeNew
  split
  · rename_i n found
    have granted := grant_quiet s (openNeed s s.profiles[p] r)
    split <;> rename_i outcome <;> rw [outcome] at granted
    · refine (h.of_quiet granted).openSlot ?_ ?_ r _ <;> rw [granted.slots]
      exacts [lowestIdle_eq_some found, free]
    · exact h.of_quiet granted
  · exact h.startEviction

/-- Once the OPEN slot of a profile id is closed, none is OPEN for it (R52). -/
theorem TableAgrees.free_after_close (h : TableAgrees s) {n : SlotNo} {b : Bundle} {idle age : Option PartTime}
    (opened : s.slots[n] = .opened b idle age) (cause : CloseCause) (m : SlotNo) :
    openProfile (Machine.closeSlot s n cause).slots[m] ≠ some b.snapshot.profile := by
  rw [closeSlot_slots opened]
  split
  · exact nofun
  · rename_i other
    exact fun same => other (h.one_open m n _ same (by rw [opened]; rfl))

theorem TableAgrees.placeValid (h : TableAgrees s) (p : Fin 32) (r : TakenRecord) :
    TableAgrees (placeValid s p r).1 := by
  unfold Machine.placeValid
  split
  · rename_i none_open
    exact h.placeNew (openSlotOf_eq_none none_open) r
  · rename_i n b age found
    obtain ⟨idle, opened, profile⟩ := openSlotOf_eq_some found
    dsimp only
    split
    · exact (h.closeSlot n _).placeNew (profile ▸ h.free_after_close opened _) r
    · split
      · exact h.appendEntry opened r _
      · have granted := grant_quiet s 1
        split <;> rename_i outcome <;> rw [outcome] at granted
        · refine (h.of_quiet granted).appendEntry (idle := idle) ?_ r _
          rw [granted.slots]
          exact opened
        · exact (h.of_quiet granted).closeSlot n _

/-- A placement attempt keeps the agreement, however it ends. -/
theorem TableAgrees.place (h : TableAgrees s) (p : Fin 32) (r : TakenRecord) : TableAgrees (place s p r).1 := by
  have placed := h.placeValid p r
  unfold Machine.place
  split
  · split
    · rename_i outcome
      rw [outcome] at placed
      exact placed.congr rfl rfl (closeOrder_congr rfl rfl) rfl
    · exact placed
  · exact h.congr rfl rfl (closeOrder_congr rfl rfl) rfl

end Agrees

/-! ### The mark moves only when the record must wait (R57) -/

theorem postAppend_evictionMark (s : State) (n : SlotNo) (r : TakenRecord) :
    (postAppend s n r).evictionMark = s.evictionMark := by
  unfold postAppend
  split
  · exact closeSlot_evictionMark s n _
  · split
    · exact closeSlot_evictionMark s n _
    · split
      · split
        · exact closeSlot_evictionMark s n _
        · rfl
      · rfl

theorem appendEntry_evictionMark (s : State) (n : SlotNo) (b : Bundle) (age : Option PartTime) (r : TakenRecord)
    (blocks : List BlockNo) : (appendEntry s n b age r blocks).evictionMark = s.evictionMark :=
  postAppend_evictionMark _ n r

theorem openSlot_evictionMark (s : State) (n : SlotNo) (p : Fin 32) (r : TakenRecord) (blocks : List BlockNo) :
    (openSlot s n p r blocks).evictionMark = s.evictionMark :=
  postAppend_evictionMark _ n r

theorem placeNew_mark (s : State) (p : Fin 32) (r : TakenRecord) :
    (placeNew s p r).2 = .wait ∨ (placeNew s p r).1.evictionMark = s.evictionMark := by
  unfold placeNew
  split
  · have granted := grant_quiet s (openNeed s s.profiles[p] r)
    split <;> rename_i outcome
    · rw [outcome] at granted
      exact .inr ((openSlot_evictionMark _ _ p r _).trans granted.evictionMark)
    · exact .inl rfl
  · exact .inl rfl

theorem placeValid_mark (s : State) (p : Fin 32) (r : TakenRecord) :
    (placeValid s p r).2 = .wait ∨ (placeValid s p r).1.evictionMark = s.evictionMark := by
  unfold placeValid
  split
  · exact placeNew_mark s p r
  · dsimp only
    split
    · rw [← closeSlot_evictionMark s _ .byteLimit]
      exact placeNew_mark _ p r
    · split
      · exact .inr (appendEntry_evictionMark s _ _ _ r _)
      · have granted := grant_quiet s 1
        split <;> rename_i outcome
        · rw [outcome] at granted
          exact .inr ((appendEntry_evictionMark _ _ _ _ r _).trans granted.evictionMark)
        · exact .inl rfl

theorem place_mark (s : State) (p : Fin 32) (r : TakenRecord) :
    (place s p r).2 = .wait ∨ (place s p r).1.evictionMark = s.evictionMark := by
  have placed := placeValid_mark s p r
  unfold place
  split
  · split
    · rename_i outcome
      rw [outcome] at placed
      exact .inr (placed.resolve_left nofun)
    · exact placed
  · exact .inr rfl

/-! ### Every kind of change keeps the law -/

section Sound

variable {s t : State}

theorem slotTableSound_congr (h : SlotTableSound s) (slots : t.slots = s.slots) (openOrder : t.openOrder = s.openOrder)
    (closeOrder : ∀ cls, t.closeOrder cls = s.closeOrder cls) (mark : t.evictionMark = s.evictionMark)
    (hold : t.hold = s.hold) (opState : t.opState = s.opState) : SlotTableSound t := by
  obtain ⟨agrees, open_in_run, mark_held, drain_waits⟩ := (slotTableSound_iff s).mp h
  refine (slotTableSound_iff t).mpr ⟨agrees.congr slots openOrder closeOrder mark, ?_, ?_, ?_⟩
  · rw [openOrder, opState]
    exact open_in_run
  · rw [mark, hold]
    exact mark_held
  · unfold State.allIdle
    rw [opState, slots]
    exact drain_waits

theorem slotTableSound_of_quiet (h : SlotTableSound s) (same : Quiet s t) : SlotTableSound t :=
  slotTableSound_congr h same.slots same.openOrder same.closeOrder same.evictionMark same.hold same.opState

theorem closeSlot_opState (s : State) (n : SlotNo) (cause : CloseCause) :
    (closeSlot s n cause).opState = s.opState := (closeSlot_reach s n cause).opState

theorem closeSlot_hold (s : State) (n : SlotNo) (cause : CloseCause) :
    (closeSlot s n cause).hold = s.hold := (closeSlot_reach s n cause).hold

theorem closeSlot_allIdle (s : State) (n : SlotNo) (cause : CloseCause) :
    (closeSlot s n cause).allIdle = s.allIdle := by
  rw [Bool.eq_iff_iff, allIdle_iff, allIdle_iff]
  exact forall_congr' (closeSlot_idle_iff s n cause)

theorem slotTableSound_closeSlot (h : SlotTableSound s) (n : SlotNo) (cause : CloseCause) :
    SlotTableSound (closeSlot s n cause) := by
  obtain ⟨agrees, open_in_run, mark_held, drain_waits⟩ := (slotTableSound_iff s).mp h
  refine (slotTableSound_iff _).mpr ⟨agrees.closeSlot n cause, fun some_open => ?_, ?_, ?_⟩
  · rw [closeSlot_opState]
    refine open_in_run fun none_open => some_open ?_
    have closed : slotOpen s.slots[n] = false := by
      rw [← Bool.not_eq_true, ← agrees.openOrder_iff, none_open]
      exact List.not_mem_nil
    rw [closeSlot_of_not_open closed, none_open]
  · rw [closeSlot_evictionMark, closeSlot_hold]
    exact mark_held
  · rw [closeSlot_opState, closeSlot_allIdle]
    exact drain_waits

/-- In RUN the law is the agreement, and a held record beside a mark. -/
theorem slotTableSound_of_run (run : s.opState = .run) (agrees : TableAgrees s)
    (mark_held : s.evictionMark ≠ none → s.hold ≠ none) : SlotTableSound s :=
  (slotTableSound_iff s).mpr
    ⟨agrees, fun _ => run, mark_held, fun draining => absurd (run.symm.trans draining) nofun⟩

/-- Without a held record there is no mark. -/
theorem no_mark_of_sound (h : SlotTableSound s) (free : s.hold = none) : s.evictionMark = none := by
  by_contra marked
  exact ((slotTableSound_iff s).mp h).2.2.1 marked free

theorem place_opState (s : State) (p : Fin 32) (r : TakenRecord) : (place s p r).1.opState = s.opState :=
  (place_reach s p r).opState

theorem place_hold (s : State) (p : Fin 32) (r : TakenRecord) : (place s p r).1.hold = s.hold :=
  (place_reach s p r).hold

theorem handOver_of_place {s' : State} {p : Fin 32} {r : TakenRecord} {res : PlaceResult}
    (placed : place s p r = (s', res)) :
    handOver s p r =
      if res = .wait then
        { s' with
          hold := some ⟨r, p⟩
          classify := { s'.classify with holdEntries := bump s'.classify.holdEntries } }
      else s' := by
  cases res <;> simp [handOver, placed]

/-- A record offered for the first time is placed with no mark set, or enters the hold stage (R36 (1)). -/
theorem slotTableSound_handOver (h : SlotTableSound s) (run : s.opState = .run) (free : s.hold = none) (p : Fin 32)
    (r : TakenRecord) : SlotTableSound (handOver s p r) := by
  have agrees := (tableAgrees_of_sound h).place p r
  have running := (place_opState s p r).trans run
  have mark := place_mark s p r
  rcases placed : place s p r with ⟨s', res⟩
  rw [placed] at agrees running mark
  rw [handOver_of_place placed]
  split
  · exact slotTableSound_of_run running (agrees.congr rfl rfl (closeOrder_congr rfl rfl) rfl) fun _ => nofun
  · rename_i left
    have unmarked : s'.evictionMark = none := (mark.resolve_left left).trans (no_mark_of_sound h free)
    exact slotTableSound_of_run running agrees fun marked => absurd unmarked marked

/-- A trial leaves the record in the hold stage, or empties it and clears the mark (R57 (2), R59). -/
theorem slotTableSound_tryHeld (h : SlotTableSound s) : SlotTableSound (tryHeld s) := by
  by_cases run : s.opState = .run
  · cases holds : s.hold with
    | none =>
      unfold tryHeld
      rw [run, holds]
      exact h
    | some held =>
      have agrees := (tableAgrees_of_sound h).place held.profile held.taken
      have running := (place_opState s held.profile held.taken).trans run
      have still := (place_hold s held.profile held.taken).trans holds
      rcases placed : place s held.profile held.taken with ⟨s', res⟩
      rw [placed] at agrees running still
      rw [tryHeld_of_place run holds placed]
      split
      · exact slotTableSound_of_run running agrees fun _ freed => absurd (still.symm.trans freed) nofun
      · exact slotTableSound_of_run running (agrees.remark rfl rfl (closeOrder_congr rfl rfl) nofun)
          fun marked => absurd rfl marked
  · rw [tryHeld_of_not_run run]
    exact h

/-! ### QUIESCE and the end of DRAINING (R61, R64, R146, R149) -/

/-- What every claim to close keeps, the close of every OPEN slot keeps. -/
theorem closeAll_keeps {P : State → Prop} {cause : CloseCause} (kept : ∀ u n, P u → P (closeSlot u n cause))
    (h : P s) : P (closeAll s cause) :=
  List.foldlRecOn _ _ h fun u hu n _ => kept u n hu

/-- Once each slot of the Open Order List has closed, the list is empty. -/
theorem closeAll_openOrder (h : TableAgrees s) (cause : CloseCause) : (closeAll s cause).openOrder = [] := by
  unfold closeAll
  generalize order : s.openOrder = l
  induction l generalizing s with
  | nil => exact order
  | cons n l ih =>
    have mem : n ∈ s.openOrder := order ▸ List.mem_cons_self
    obtain ⟨b, idle, age, hs⟩ := (slotOpen_iff _).mp ((h.openOrder_iff n).mp mem)
    refine ih (h.closeSlot n cause) ?_
    rw [closeSlot_openOrder hs, order, List.erase_cons_head]

/-- With every slot IDLE no slot is OPEN. -/
theorem TableAgrees.openOrder_of_allIdle (h : TableAgrees s) (idle : s.allIdle = true) : s.openOrder = [] :=
  List.eq_nil_iff_forall_not_mem.mpr fun n => by
    rw [h.openOrder_iff, (allIdle_iff s).mp idle n]
    exact nofun

theorem slotTableSound_rest (h : SlotTableSound s) (idle : s.allIdle = true) :
    SlotTableSound { s with opState := .quiesced } := by
  obtain ⟨agrees, _, mark_held, _⟩ := (slotTableSound_iff s).mp h
  refine (slotTableSound_iff _).mpr ⟨?_, fun some_open => ?_, mark_held, nofun⟩
  · exact agrees.congr rfl rfl (closeOrder_congr rfl rfl) rfl
  · exact absurd (agrees.openOrder_of_allIdle idle) some_open

theorem slotTableSound_resume (h : SlotTableSound s) : SlotTableSound { s with opState := .run } := by
  obtain ⟨agrees, _, mark_held, _⟩ := (slotTableSound_iff s).mp h
  exact slotTableSound_of_run rfl (agrees.congr rfl rfl (closeOrder_congr rfl rfl) rfl) mark_held

/-- On QUIESCE every OPEN slot closes, and a slot that is not IDLE is left to wait for (R61). -/
theorem slotTableSound_drain (h : SlotTableSound s) (busy : s.allIdle = false) :
    SlotTableSound (closeAll { s with opState := .draining } .quiesce) := by
  obtain ⟨agrees, _, mark_held, _⟩ := (slotTableSound_iff s).mp h
  have agrees : TableAgrees { s with opState := .draining } :=
    agrees.congr rfl rfl (closeOrder_congr rfl rfl) rfl
  refine (slotTableSound_iff _).mpr ⟨?_, fun some_open => ?_, ?_, fun _ => ?_⟩
  · exact closeAll_keeps (fun u n hu => hu.closeSlot n _) agrees
  · exact absurd (closeAll_openOrder agrees _) some_open
  · refine closeAll_keeps (P := fun u => u.evictionMark ≠ none → u.hold ≠ none) (fun u n hu => ?_) mark_held
    rw [closeSlot_evictionMark, closeSlot_hold]
    exact hu
  · exact closeAll_keeps (P := fun u => u.allIdle = false) (fun u n hu => (closeSlot_allIdle u n _).trans hu) busy

/-- The Slot Table while the drain timer's expiry discards its CLOSED slots: no slot is OPEN, and there may be no slot left to wait for. -/
structure DiscardSound (s : State) : Prop where
  agrees : TableAgrees s
  none_open : s.openOrder = []
  mark_held : s.evictionMark ≠ none → s.hold ≠ none
  draining : s.opState = .draining

theorem DiscardSound.vacate (h : DiscardSound s) {n : SlotNo} {b : Bundle} {cause : CloseCause} {cls : BundleClass}
    (closed : s.slots[n] = .closed b cause cls) : DiscardSound (vacate s n cls) where
  agrees := h.agrees.vacate closed
  none_open := (vacate_openOrder s n cls).trans h.none_open
  mark_held := fun marked => by
    rw [vacate_hold]
    refine h.mark_held fun unmarked => marked ?_
    rw [vacate_evictionMark, unmarked]
    rfl
  draining := (vacate_opState s n cls).trans h.draining

theorem DiscardSound.of_quiet (h : DiscardSound s) (same : Quiet s t) : DiscardSound t where
  agrees := h.agrees.of_quiet same
  none_open := same.openOrder.trans h.none_open
  mark_held := by
    rw [same.evictionMark, same.hold]
    exact h.mark_held
  draining := same.opState.trans h.draining

/-- In DRAINING the chain given back tries no held record, so that the discard only vacates the slot. -/
theorem DiscardSound.discardSlot (h : DiscardSound s) (n : SlotNo) : DiscardSound (discardSlot s n) := by
  have not_run : s.opState ≠ .run := fun run => absurd (h.draining.symm.trans run) nofun
  by_cases closed : ∃ b cause cls, s.slots[n] = .closed b cause cls
  · obtain ⟨b, cause, cls, closed⟩ := closed
    have returned := giveBack_quiet_of_not_run not_run b.chain
    exact (h.vacate closed).of_quiet ((vacate_quiet returned n cls).trans (discardSlot_of_closed closed))
  · rw [discardSlot_of_not_closed fun b cause cls hs => closed ⟨b, cause, cls, hs⟩]
    exact h

theorem slotTableSound_discard (h : SlotTableSound s) (draining : s.opState = .draining) :
    SlotTableSound { discardClosed s with opState := .quiesced } := by
  obtain ⟨agrees, open_in_run, mark_held, _⟩ := (slotTableSound_iff s).mp h
  have none_open : s.openOrder = [] := by
    by_contra some_open
    exact absurd ((open_in_run some_open).symm.trans draining) nofun
  have discarded : DiscardSound (discardClosed s) :=
    List.foldlRecOn _ _ (DiscardSound.mk agrees none_open mark_held draining) fun u hu n _ => hu.discardSlot n
  refine (slotTableSound_iff _).mpr ⟨?_, fun some_open => ?_, discarded.mark_held, nofun⟩
  · exact discarded.agrees.congr rfl rfl (closeOrder_congr rfl rfl) rfl
  · exact absurd discarded.none_open some_open

/-! ### The move of a CLOSED slot's bundle (R63) -/

/-- What follows a move: a trial in RUN, the end of a drain that has no slot left to wait for (R59, R61). -/
theorem slotTableSound_slotBecameIdle (agrees : TableAgrees s) (open_in_run : s.openOrder ≠ [] → s.opState = .run)
    (mark_held : s.evictionMark ≠ none → s.hold ≠ none) : SlotTableSound (slotBecameIdle s) := by
  unfold slotBecameIdle
  split
  case h_1 run => exact slotTableSound_tryHeld (slotTableSound_of_run run agrees mark_held)
  case h_2 draining =>
    split
    · rename_i idle
      refine slotTableSound_of_quiet ?_ (endDrain_quiet s _ _)
      refine (slotTableSound_iff _).mpr ⟨?_, fun some_open => ?_, mark_held, nofun⟩
      · exact agrees.congr rfl rfl (closeOrder_congr rfl rfl) rfl
      · exact absurd (agrees.openOrder_of_allIdle idle) some_open
    · rename_i busy
      exact (slotTableSound_iff s).mpr ⟨agrees, open_in_run, mark_held, fun _ => Bool.eq_false_iff.mpr busy⟩
  case h_3 quiesced =>
    exact (slotTableSound_iff s).mpr
      ⟨agrees, open_in_run, mark_held, fun draining => absurd (quiesced.symm.trans draining) nofun⟩

theorem slotTableSound_moveHead (h : SlotTableSound s) (cls : BundleClass) : SlotTableSound (moveHead s cls) := by
  obtain stays | ⟨n, rest, b, cause, qc, order, closed, moves⟩ := moveHead_cases s cls
  · rw [stays]
    exact h
  · obtain ⟨agrees, open_in_run, mark_held, _⟩ := (slotTableSound_iff s).mp h
    have ofClass : qc = cls := by
      have mem : n ∈ s.closeOrder cls := order ▸ List.mem_cons_self
      rw [agrees.closeOrder_iff, closed] at mem
      exact beq_iff_eq.mp mem
    subst ofClass
    rw [moves]
    refine slotTableSound_slotBecameIdle ?_ ?_ ?_
    · exact (agrees.vacate closed).congr (by simp) (by simp) (by simp) (by simp)
    · rw [State.setQueue_openOrder, State.setQueue_opState, vacate_openOrder, vacate_opState]
      exact open_in_run
    · rw [State.setQueue_evictionMark, State.setQueue_hold, vacate_evictionMark, vacate_hold]
      intro marked
      refine mark_held fun unmarked => marked ?_
      rw [unmarked]
      rfl

/-! ### Resets (section 8.6) -/

/-- An empty Slot Table outside DRAINING. -/
theorem slotTableSound_of_empty (slots : ∀ n : SlotNo, s.slots[n] = .idle) (openOrder : s.openOrder = [])
    (closeOrder : ∀ cls, s.closeOrder cls = []) (mark : s.evictionMark = none) (quiesced : s.opState = .quiesced) :
    SlotTableSound s where
  openOrder_nodup := openOrder ▸ List.nodup_nil
  openOrder_iff := fun n => by simp [openOrder, slots n, slotOpen]
  closeOrder_nodup := fun cls => closeOrder cls ▸ List.nodup_nil
  closeOrder_iff := fun cls n => by simp [closeOrder cls, slots n, slotClosedFor]
  one_open := fun n _ _ hn => by simp [slots n, openProfile] at hn
  open_in_run := fun some_open => absurd openOrder some_open
  mark_evicted := fun n hn => absurd (mark.symm.trans hn) nofun
  drain_waits := fun draining => absurd (quiesced.symm.trans draining) nofun

/-- After a reset every slot is IDLE. -/
theorem performReset_slots (s : State) (level : ResetLevel) (n : SlotNo) : (performReset s level).slots[n] = .idle := by
  cases level <;> exact Vector.getElem_replicate n.isLt

theorem slotTableSound_reset (s : State) (level : ResetLevel) : SlotTableSound (performReset s level) := by
  refine slotTableSound_of_empty (performReset_slots s level) ?_ ?_ ?_ ?_
  · cases level <;> rfl
  · intro cls
    cases level <;> cases cls <;> rfl
  · cases level <;> rfl
  · cases level <;> rfl

/-- Every kind of change keeps the law of the Slot Table. -/
theorem SlotChange.keeps_slotTable {offered : TakenRecord → Prop} (change : SlotChange offered s t)
    (h : SlotTableSound s) : SlotTableSound t := by
  cases change with
  | release view fewer =>
    refine slotTableSound_congr h ?_ ?_ ?_ ?_ ?_ ?_
    · exact congrArg BundleView.slots view
    · exact congrArg BundleView.openOrder view
    · exact closeOrder_congr (congrArg BundleView.closeExpress view) (congrArg BundleView.closeBulk view)
    · exact congrArg BundleView.evictionMark view
    · exact congrArg BundleView.hold view
    · exact congrArg BundleView.opState view
  | close n cause => exact slotTableSound_closeSlot h n cause
  | offer p run free waiting => exact slotTableSound_handOver h run free p _
  | trial => exact slotTableSound_tryHeld h
  | move cls => exact slotTableSound_moveHead h cls
  | writeProfile p range => exact slotTableSound_congr h rfl rfl (closeOrder_congr rfl rfl) rfl rfl rfl
  | writeTemplate i fits => exact slotTableSound_congr h rfl rfl (closeOrder_congr rfl rfl) rfl rfl rfl
  | rest idle => exact slotTableSound_rest h idle
  | drain busy => exact slotTableSound_drain h busy
  | resume quiesced => exact slotTableSound_resume h
  | discard draining => exact slotTableSound_discard h draining
  | reset level => exact slotTableSound_reset s level

end Sound

/-- Settles O10: a step is a run of changes, and each change keeps the law. -/
theorem stepKeepsSlotTable : Obligations.StepKeepsSlotTable := by
  intro s t sound stepped
  exact (step_slotRun stepped).keeps SlotChange.keeps_slotTable sound

end Sys2Proof.Machine
end

section
/-! Proofs: every step keeps every bundle within its limits, and its chain as long as its content (R41, R43, R44, R53, R71). -/

namespace Sys2Proof.Machine

open Safety

/-! ### Sizes of entries and chains -/

/-- An entry takes 4 bytes at least, and 126 at most for a payload that a field frame can carry (R42). -/
theorem entrySize_bounds (stamp : Bool) {len : Nat} (fits : len ≤ 120) :
    4 ≤ entrySize stamp len ∧ entrySize stamp len ≤ 126 := by
  unfold entrySize
  split <;> omega

/-- A grant gives as many blocks as were asked for (R70). -/
theorem grant_length {s u : State} {k : Nat} {blocks : List BlockNo} (h : grant s k = (u, some blocks)) :
    blocks.length = k := by
  have given := grant_blocks s k
  rw [h] at given
  split at given
  · cases given
    exact List.length_take_of_le ‹_›
  · cases given

section Sound

variable {s t : State}

/-- Every OPEN or CLOSED slot's bundle is sound. -/
def SlotsSound (s : State) : Prop := ∀ n : SlotNo, SlotSound s.slots[n]

theorem SlotsSound.congr (h : SlotsSound s) (slots : t.slots = s.slots) : SlotsSound t := by
  unfold SlotsSound
  rw [slots]
  exact h

theorem SlotsSound.replace (h : SlotsSound s) {n : SlotNo} {x : Slot}
    (slots : ∀ m : SlotNo, t.slots[m] = if m = n then x else s.slots[m]) (sound : SlotSound x) : SlotsSound t := by
  intro m
  rw [slots]
  split
  · exact sound
  · exact h m

theorem SlotsSound.setSlot (h : SlotsSound s) {n : SlotNo} {x : Slot} (sound : SlotSound x) :
    SlotsSound (s.setSlot n x) :=
  h.replace (State.setSlot_get s n · x) sound

theorem SlotsSound.opened (h : SlotsSound s) {n : SlotNo} {b : Bundle} {idle age : Option PartTime}
    (hs : s.slots[n] = .opened b idle age) : BundleSound b ∧ b.recordCount < b.snapshot.recordLimit.toNat := by
  have sound := h n
  rw [hs] at sound
  exact sound

/-- A close keeps the bundle as it is (R48). -/
theorem SlotsSound.closeSlot (h : SlotsSound s) (n : SlotNo) (cause : CloseCause) :
    SlotsSound (closeSlot s n cause) := by
  by_cases opened : slotOpen s.slots[n] = true
  · obtain ⟨b, idle, age, hs⟩ := (slotOpen_iff _).mp opened
    exact h.replace (closeSlot_slots hs cause) (h.opened hs).1
  · rw [closeSlot_of_not_open (Bool.eq_false_iff.mpr opened)]
    exact h

/-! ### The first entry, and every further one (R55, R56) -/

/-- The bundle of a slot that has taken an entry may have reached its record limit; the post-append checks then close it (R49). -/
theorem SlotsSound.postAppend (h : SlotsSound s) {n : SlotNo} {b : Bundle} (sound : BundleSound b)
    (idle age : Option PartTime) (r : TakenRecord) :
    SlotsSound (postAppend (s.setSlot n (.opened b idle age)) n r) := by
  have here : (s.setSlot n (.opened b idle age)).slots[n] = .opened b idle age := by
    rw [State.setSlot_get, if_pos rfl]
  have closes (cause : CloseCause) : SlotsSound (Machine.closeSlot (s.setSlot n (.opened b idle age)) n cause) := by
    refine h.replace (n := n) (x := .closed b cause (queueClassOf b cause)) (fun m => ?_) sound
    rw [closeSlot_slots here, State.setSlot_get]
    split <;> rfl
  unfold Machine.postAppend
  split
  · exact closes _
  · split
    · exact closes _
    · rw [here]
      dsimp only
      split
      · exact closes _
      · rename_i below
        exact h.setSlot ⟨sound, Nat.lt_of_le_of_ne sound.records_le below⟩

/-- The bundle after an append within the byte limit: `blocks` is empty when the entry fits the last block, else one block (R55). -/
theorem bundleSound_append {b : Bundle} {size : Nat} {blocks : List BlockNo} (h : BundleSound b)
    (room : b.recordCount < b.snapshot.recordLimit.toNat)
    (within : b.bodyBytes + size ≤ b.snapshot.byteLimit.toNat) (small : size ≤ 126)
    (placed : blocks = [] ∧ size ≤ 128 - b.lastBytes ∨ blocks.length = 1 ∧ 128 - b.lastBytes < size) :
    BundleSound
      { b with
        recordCount := b.recordCount + 1
        bodyBytes := b.bodyBytes + size
        chain := b.chain ++ blocks
        lastBytes := if blocks = [] then b.lastBytes + size else size - (Config.blockSize - b.lastBytes) } where
  recordLimit_le := h.recordLimit_le
  byteLimit_ge := h.byteLimit_ge
  byteLimit_le := h.byteLimit_le
  template_le := h.template_le
  one_record := Nat.le_add_left 1 _
  records_le := room
  bytes_le := within
  chain := by
    obtain ⟨full, some_bytes, last_le⟩ := h.chain
    unfold Bundle.contentLength at full
    unfold ChainFits Bundle.contentLength Config.blockSize
    obtain ⟨rfl, fits⟩ | ⟨one, exceeds⟩ := placed
    · simp only [List.append_nil, if_true]
      omega
    · have : blocks ≠ [] := fun none => by simp [none] at one
      simp only [List.length_append, if_neg this]
      omega

theorem SlotsSound.appendEntry (h : SlotsSound s) {n : SlotNo} {b : Bundle} {idle age : Option PartTime}
    (opened : s.slots[n] = .opened b idle age) {r : TakenRecord} (payload : r.record.payload.length ≤ 120)
    {blocks : List BlockNo}
    (within : b.bodyBytes + entrySize b.snapshot.stamp r.record.payload.length ≤ b.snapshot.byteLimit.toNat)
    (placed : blocks = [] ∧ entrySize b.snapshot.stamp r.record.payload.length ≤ 128 - b.lastBytes
      ∨ blocks.length = 1 ∧ 128 - b.lastBytes < entrySize b.snapshot.stamp r.record.payload.length) :
    SlotsSound (appendEntry s n b age r blocks) := by
  obtain ⟨sound, room⟩ := h.opened opened
  refine SlotsSound.postAppend ?_ ?_ _ _ r
  · exact h
  · exact bundleSound_append sound room within (entrySize_bounds _ payload).2 placed

/-- The tables as a placement reads them: the profile's limits in range, its template no longer than a template can be (R32, R35). -/
structure TablesFit (s : State) : Prop where
  profiles : ∀ p : Fin 32, ProfileInRange s.profiles[p]
  templates : ∀ i : Fin 8, s.templates[i].length ≤ 32

theorem TablesFit.congr (h : TablesFit s) (profiles : t.profiles = s.profiles) (templates : t.templates = s.templates) :
    TablesFit t where
  profiles := profiles ▸ h.profiles
  templates := templates ▸ h.templates

theorem TablesFit.templateBytes_le (h : TablesFit s) (p : Profile) : (s.templateBytes p).length ≤ 32 := by
  unfold State.templateBytes
  split
  · exact Nat.zero_le 32
  · exact h.templates _

/-- A slot opens with one record, within the limits its profile gives it (R41, R56). -/
theorem SlotsSound.openSlot (h : SlotsSound s) (tables : TablesFit s) (n : SlotNo) (p : Fin 32) {r : TakenRecord}
    (payload : r.record.payload.length ≤ 120) {blocks : List BlockNo}
    (granted : blocks.length = openNeed s s.profiles[p] r) : SlotsSound (openSlot s n p r blocks) := by
  obtain ⟨records, records', bytes, bytes'⟩ := tables.profiles p
  have template := tables.templateBytes_le s.profiles[p]
  obtain ⟨size, size'⟩ := entrySize_bounds s.profiles[p].stamp payload
  refine SlotsSound.postAppend ?_ ?_ _ _ r
  · exact h
  · exact
      { recordLimit_le := records'
        byteLimit_ge := bytes
        byteLimit_le := bytes'
        template_le := template
        one_record := Nat.le_refl 1
        records_le := records
        bytes_le := size'.trans (Nat.le_trans (by decide) bytes)
        chain := by
          unfold openNeed at granted
          unfold ChainFits Bundle.contentLength
          unfold Config.blockSize at granted ⊢
          dsimp only
          split at granted <;> omega }

/-! ### A placement (R54) -/

theorem SlotsSound.startEviction (h : SlotsSound s) : SlotsSound (startEviction s) := by
  unfold Machine.startEviction
  split
  · exact (h.closeSlot _ _).congr rfl
  · exact h

theorem SlotsSound.placeNew (h : SlotsSound s) (tables : TablesFit s) (p : Fin 32) {r : TakenRecord}
    (payload : r.record.payload.length ≤ 120) : SlotsSound (placeNew s p r).1 := by
  unfold Machine.placeNew
  split
  · have quiet := grant_quiet s (openNeed s s.profiles[p] r)
    split <;> rename_i outcome
    · have given := grant_length outcome
      rw [outcome] at quiet
      refine (h.congr quiet.slots).openSlot (tables.congr quiet.profiles quiet.templates) _ p payload ?_
      rw [given]
      unfold openNeed State.templateBytes
      rw [quiet.profiles, quiet.templates]
    · rw [outcome] at quiet
      exact h.congr quiet.slots
  · exact h.startEviction

theorem SlotsSound.placeValid (h : SlotsSound s) (tables : TablesFit s) (p : Fin 32) {r : TakenRecord}
    (payload : r.record.payload.length ≤ 120) : SlotsSound (placeValid s p r).1 := by
  unfold Machine.placeValid
  split
  · exact h.placeNew tables p payload
  · rename_i n b age found
    obtain ⟨idle, opened, _⟩ := openSlotOf_eq_some found
    dsimp only
    split
    · have closed := closeSlot_reach s n .byteLimit
      exact (h.closeSlot n _).placeNew (tables.congr closed.profiles closed.templates) p payload
    · rename_i within
      have within := Nat.le_of_not_lt within
      split
      · rename_i fits
        exact h.appendEntry opened payload within (.inl ⟨rfl, fits⟩)
      · rename_i exceeds
        have quiet := grant_quiet s 1
        split <;> rename_i outcome
        · have given := grant_length outcome
          rw [outcome] at quiet
          refine (h.congr quiet.slots).appendEntry (idle := idle) ?_ payload within
            (.inr ⟨given, Nat.lt_of_not_le exceeds⟩)
          rw [quiet.slots]
          exact opened
        · rw [outcome] at quiet
          exact (h.congr quiet.slots).closeSlot n _

/-- A placement attempt keeps every slot's bundle sound, however it ends. -/
theorem SlotsSound.place (h : SlotsSound s) (tables : TablesFit s) (p : Fin 32) {r : TakenRecord}
    (payload : r.record.payload.length ≤ 120) : SlotsSound (place s p r).1 := by
  have placed := h.placeValid tables p payload
  unfold Machine.place
  split
  · split
    · rename_i outcome
      rw [outcome] at placed
      exact placed.congr rfl
    · exact placed
  · exact h.congr rfl

/-! ### Every kind of change keeps the law -/

/-- What the changes of a step keep together: bundles sound in the slots and outside, the tables that placements read in range, the held record short enough for one entry. -/
structure BuildSound (s : State) : Prop where
  slots : SlotsSound s
  descriptors : ∀ d ∈ s.descriptors, DescriptorSound d
  tables : TablesFit s
  held : ∀ h, s.hold = some h → h.taken.record.payload.length ≤ 120

theorem bundlesSound_iff (s : State) :
    BundlesSound s ↔ SlotsSound s ∧ ∀ d ∈ s.descriptors, DescriptorSound d := by
  unfold State.descriptors
  constructor
  · intro h
    refine ⟨h.slots, fun d hd => ?_⟩
    simp only [List.mem_append, List.mem_map] at hd
    obtain (express | bulk) | ⟨e, he, rfl⟩ := hd
    · exact h.express d express
    · exact h.bulk d bulk
    · exact h.retained e he
  · rintro ⟨slots, descriptors⟩
    exact
      { slots := slots
        express := fun d hd => descriptors d (by simp [hd])
        bulk := fun d hd => descriptors d (by simp [hd])
        retained := fun e he => descriptors e.desc (List.mem_append_right _ (List.mem_map_of_mem he)) }

theorem buildSound_of_laws (bundles : BundlesSound s) (tables : TablesInRange s) (ports : PortsSound s) :
    BuildSound s :=
  have ⟨slots, descriptors⟩ := (bundlesSound_iff s).mp bundles
  ⟨slots, descriptors, ⟨tables.profiles, tables.templates⟩, ports.held⟩

/-- No new descriptor, and all else as it was. -/
theorem BuildSound.congr (h : BuildSound s) (slots : t.slots = s.slots) (descriptors : t.descriptors ⊆ s.descriptors)
    (profiles : t.profiles = s.profiles) (templates : t.templates = s.templates) (hold : t.hold = s.hold) :
    BuildSound t where
  slots := h.slots.congr slots
  descriptors := fun d hd => h.descriptors d (descriptors hd)
  tables := h.tables.congr profiles templates
  held := hold ▸ h.held

theorem BuildSound.of_quiet (h : BuildSound s) (same : Quiet s t) : BuildSound t :=
  h.congr same.slots (fun _ hd => same.descriptors ▸ hd) same.profiles same.templates same.hold

/-- After a change of the slots alone. -/
theorem BuildSound.rebuilt (h : BuildSound s) (reach : BuildReach s t) (slots : SlotsSound t) : BuildSound t where
  slots := slots
  descriptors := reach.descriptors ▸ h.descriptors
  tables := h.tables.congr reach.profiles reach.templates
  held := reach.hold ▸ h.held

theorem BuildSound.place (h : BuildSound s) (p : Fin 32) {r : TakenRecord}
    (payload : r.record.payload.length ≤ 120) : BuildSound (place s p r).1 :=
  h.rebuilt (place_reach s p r) (h.slots.place h.tables p payload)

theorem BuildSound.closeSlot (h : BuildSound s) (n : SlotNo) (cause : CloseCause) : BuildSound (closeSlot s n cause) :=
  h.rebuilt (closeSlot_reach s n cause) (h.slots.closeSlot n cause)

theorem BuildSound.handOver (h : BuildSound s) (p : Fin 32) {r : TakenRecord}
    (payload : r.record.payload.length ≤ 120) : BuildSound (handOver s p r) := by
  have placed := h.place p payload
  rcases outcome : Machine.place s p r with ⟨s', res⟩
  rw [outcome] at placed
  rw [handOver_of_place outcome]
  split
  · exact
      { slots := placed.slots
        descriptors := placed.descriptors
        tables := ⟨placed.tables.profiles, placed.tables.templates⟩
        held := fun _ same => Option.some.inj same ▸ payload }
  · exact placed

theorem BuildSound.tryHeld (h : BuildSound s) : BuildSound (tryHeld s) := by
  by_cases run : s.opState = .run
  · cases holds : s.hold with
    | none =>
      unfold Machine.tryHeld
      rw [run, holds]
      exact h
    | some held =>
      have placed := h.place held.profile (h.held held holds)
      rcases outcome : Machine.place s held.profile held.taken with ⟨s', res⟩
      rw [outcome] at placed
      rw [tryHeld_of_place run holds outcome]
      split
      · exact placed
      · exact
          { slots := placed.slots
            descriptors := placed.descriptors
            tables := ⟨placed.tables.profiles, placed.tables.templates⟩
            held := nofun }
  · rw [tryHeld_of_not_run run]
    exact h

theorem BuildSound.vacate (h : BuildSound s) (n : SlotNo) (cls : BundleClass) : BuildSound (vacate s n cls) where
  slots := h.slots.replace (vacate_slots s n cls) trivial
  descriptors := by
    have same : (Machine.vacate s n cls).descriptors = s.descriptors := by
      cases cls <;> rfl
    rw [same]
    exact h.descriptors
  tables := h.tables.congr (by simp [Machine.vacate]) (by simp [Machine.vacate])
  held := by
    rw [vacate_hold]
    exact h.held

theorem BuildSound.discardSlot (h : BuildSound s) (n : SlotNo) : BuildSound (discardSlot s n) := by
  by_cases closed : ∃ b cause cls, s.slots[n] = .closed b cause cls
  · obtain ⟨b, cause, cls, closed⟩ := closed
    have returned : BuildSound (giveBack s b.chain) := (h.of_quiet (returnChain_quiet s b.chain)).tryHeld
    exact (returned.vacate n cls).of_quiet (discardSlot_of_closed closed)
  · rw [discardSlot_of_not_closed fun b cause cls hs => closed ⟨b, cause, cls, hs⟩]
    exact h

/-- The descriptor that a queue keeps of a sound bundle is sound (R79). -/
theorem descriptorOf_sound {b : Bundle} (h : BundleSound b) (cause : CloseCause) (cls : BundleClass) :
    DescriptorSound (descriptorOf b cause cls) where
  template_le := h.template_le
  one_record := h.one_record
  records_le := h.records_le.trans h.recordLimit_le
  bytes_le := h.bytes_le.trans h.byteLimit_le
  chain := h.chain

theorem BuildSound.enqueue (h : BuildSound s) (cls : BundleClass) {d : Descriptor} (sound : DescriptorSound d) :
    BuildSound (s.setQueue cls (s.queue cls ++ [d])) where
  slots := h.slots.congr (State.setQueue_slots s cls _)
  descriptors := fun x hx => by
    have old_or_new : x ∈ s.descriptors ∨ x = d := by
      cases cls <;>
        simp only [State.descriptors, State.setQueue, State.queue, List.mem_append, List.mem_singleton] at hx ⊢ <;>
        tauto
    obtain old | rfl := old_or_new
    · exact h.descriptors x old
    · exact sound
  tables := h.tables.congr (State.setQueue_profiles s cls _) (State.setQueue_templates s cls _)
  held := by
    rw [State.setQueue_hold]
    exact h.held

theorem BuildSound.slotBecameIdle (h : BuildSound s) : BuildSound (slotBecameIdle s) := by
  unfold Machine.slotBecameIdle
  split
  · exact h.tryHeld
  · split
    · have ended : BuildSound { s with opState := .quiesced } := h.congr rfl (fun _ hd => hd) rfl rfl rfl
      exact ended.of_quiet (endDrain_quiet s _ _)
    · exact h
  · exact h

theorem BuildSound.moveHead (h : BuildSound s) (cls : BundleClass) : BuildSound (moveHead s cls) := by
  obtain stays | ⟨n, rest, b, cause, qc, _, closed, moves⟩ := moveHead_cases s cls
  · rw [stays]
    exact h
  · have sound : BundleSound b := by
      have here := h.slots n
      rw [closed] at here
      exact here
    have same : s.queue cls = (Machine.vacate s n cls).queue cls := by
      cases cls <;> rfl
    rw [moves, same]
    exact ((h.vacate n cls).enqueue cls (descriptorOf_sound sound cause qc)).slotBecameIdle

/-- The tables after a pin reset (R32, R35). -/
theorem tablesFit_reset : TablesFit State.reset where
  profiles := fun p => by
    have same : State.reset.profiles[p] = Profile.reset := Vector.getElem_replicate p.isLt
    rw [same]
    unfold ProfileInRange
    decide
  templates := fun i => by
    have same : State.reset.templates[i] = [] := Vector.getElem_replicate i.isLt
    rw [same]
    exact Nat.zero_le 32

theorem BuildSound.reset (h : BuildSound s) (level : ResetLevel) : BuildSound (performReset s level) where
  slots := fun n => by
    rw [performReset_slots]
    trivial
  descriptors := by
    have none_left : (performReset s level).descriptors = [] := by
      cases level <;> rfl
    rw [none_left]
    exact nofun
  tables := by
    cases level
    · exact h.tables.congr rfl rfl
    · exact tablesFit_reset.congr rfl rfl
  held := by cases level <;> exact nofun

/-- What holds of every item of a table holds after one item is replaced by another it holds of. -/
theorem forall_getElem_set {α : Type} {size : Nat} {table : Vector α size} {P : α → Prop}
    (h : ∀ i : Fin size, P table[i]) (i : Fin size) {x : α} (hx : P x) (j : Fin size) :
    P (table.set i.val x i.isLt)[j] := by
  rw [Fin.getElem_fin, Vector.getElem_set]
  split
  · exact hx
  · exact h j

/-- Every kind of change keeps bundles, tables and the held record so, if no record longer than a field frame carries is offered. -/
theorem SlotChange.keeps_buildSound {offered : TakenRecord → Prop}
    (fits : ∀ r, offered r → r.record.payload.length ≤ 120) (change : SlotChange offered s t) (h : BuildSound s) :
    BuildSound t := by
  cases change with
  | release view fewer =>
    refine h.congr ?_ fewer ?_ ?_ ?_
    · exact congrArg BundleView.slots view
    · exact congrArg BundleView.profiles view
    · exact congrArg BundleView.templates view
    · exact congrArg BundleView.hold view
  | close n cause => exact h.closeSlot n cause
  | offer p run free waiting => exact h.handOver p (fits _ waiting)
  | trial => exact h.tryHeld
  | move cls => exact h.moveHead cls
  | writeProfile p range =>
    exact
      { slots := h.slots
        descriptors := h.descriptors
        tables := ⟨forall_getElem_set h.tables.profiles p range, h.tables.templates⟩
        held := h.held }
  | writeTemplate i short =>
    exact
      { slots := h.slots
        descriptors := h.descriptors
        tables := ⟨h.tables.profiles,
          forall_getElem_set (P := fun bytes : List Byte => bytes.length ≤ 32) h.tables.templates i short⟩
        held := h.held }
  | rest idle => exact h.congr rfl (fun _ hd => hd) rfl rfl rfl
  | drain busy =>
    have draining : BuildSound { s with opState := .draining } := h.congr rfl (fun _ hd => hd) rfl rfl rfl
    exact closeAll_keeps (fun u n hu => hu.closeSlot n _) draining
  | resume quiesced => exact h.congr rfl (fun _ hd => hd) rfl rfl rfl
  | discard draining =>
    have discarded : BuildSound (discardClosed s) := List.foldlRecOn _ _ h fun u hu n _ => hu.discardSlot n
    exact discarded.congr rfl (fun _ hd => hd) rfl rfl rfl
  | reset level => exact h.reset level

end Sound

/-- Settles O13: a step is a run of changes, each keeps every bundle sound, and a record that waits in an Intake FIFO fits one entry. -/
theorem stepKeepsBundlesWithinLimits : Obligations.StepKeepsBundlesWithinLimits := by
  intro s t bundles tables ports stepped
  have fits (r : TakenRecord) (waits : waitingIn s r) : r.record.payload.length ≤ 120 :=
    (ports.ports r.port).fifo_payloads r.record waits
  have built := (step_slotRun stepped).keeps (SlotChange.keeps_buildSound fits)
    (buildSound_of_laws bundles tables ports)
  exact (bundlesSound_iff t).mpr ⟨built.slots, built.descriptors⟩

end Sys2Proof.Machine
end

section
/-! Proofs: what each change of the part does to the Block Pool, Free List and holders taken together (R69 to R75). -/

namespace Sys2Proof.Machine

open Safety

/-! ### Free List and holders as one multiset -/

/-- The blocks of the Free List and of every holder, whatever their order (R75). -/
def State.pool (s : State) : Multiset BlockNo := ↑(s.freeList ++ heldBlocks s)

/-- The blocks of the bundles in the slots. -/
def State.slotBlocks (s : State) : Multiset BlockNo := ↑(s.slots.toList.flatMap slotChain)

/-- The blocks of the bundles in both Emission Queues. -/
def State.queueBlocks (s : State) : Multiset BlockNo :=
  ↑(s.expressQueue.flatMap Descriptor.chain) + ↑(s.bulkQueue.flatMap Descriptor.chain)

/-- The blocks of the bundles that were sent: Retention List and released-bundle hold. -/
def State.sentBlocks (s : State) : Multiset BlockNo :=
  ↑(s.retention.flatMap fun e => e.desc.chain) + ↑(s.releasedHold.getD [])

theorem pool_eq (s : State) : s.pool = ↑s.freeList + s.slotBlocks + s.queueBlocks + s.sentBlocks := by
  unfold State.pool State.slotBlocks State.queueBlocks State.sentBlocks heldBlocks
  simp only [← Multiset.coe_add, add_assoc]

/-- Where only the queues change, the pool gains what they gain. -/
theorem pool_gains_of_queues {s t : State} {chain : Multiset BlockNo}
    (frame : ↑t.freeList + t.slotBlocks + t.sentBlocks = ↑s.freeList + s.slotBlocks + s.sentBlocks)
    (queues : t.queueBlocks = s.queueBlocks + chain) : t.pool = s.pool + chain := by
  rw [pool_eq, pool_eq s, queues, add_right_comm, frame]
  abel

/-- Where only the Retention List and the released-bundle hold change, the pool gains what they gain. -/
theorem pool_gains_of_sent {s t : State} {chain : Multiset BlockNo}
    (frame : ↑t.freeList + t.slotBlocks + t.queueBlocks = ↑s.freeList + s.slotBlocks + s.queueBlocks)
    (sent : t.sentBlocks = s.sentBlocks + chain) : t.pool = s.pool + chain := by
  rw [pool_eq, pool_eq s, sent, ← add_assoc, frame]

/-- All 512 blocks, each once. -/
def fullPool : Multiset BlockNo := ↑(List.finRange 512)

theorem poolConserved_iff_pool (s : State) : PoolConserved s ↔ s.pool = fullPool :=
  (poolConserved_iff_perm s).trans Multiset.coe_eq_coe.symm

theorem poolConserved_card {s : State} (h : PoolConserved s) : s.freeList.length + (heldBlocks s).length = 512 := by
  have perm := (poolConserved_iff_perm s).mp h
  rw [← List.length_append, perm.length_eq, List.length_finRange]

/-! ### Updates of one owner -/

theorem setPort_pool (s : State) (p : PortNo) (port : Port) : (s.setPort p port).pool = s.pool := rfl

theorem setCloseOrder_pool (s : State) (cls : BundleClass) (l : List SlotNo) :
    (s.setCloseOrder cls l).pool = s.pool := by
  cases cls <;> rfl

theorem flatMap_set_add {α β : Type} (f : α → List β) (l : List α) {i : Nat} (hi : i < l.length) (x : α) :
    (↑((l.set i x).flatMap f) + ↑(f l[i]) : Multiset β) = ↑(l.flatMap f) + ↑(f x) := by
  have new := (List.set_perm_cons_eraseIdx hi x).flatMap_right f
  have old := (List.getElem_cons_eraseIdx_perm hi).symm.flatMap_right f
  rw [Multiset.coe_eq_coe.mpr new, Multiset.coe_eq_coe.mpr old]
  simp only [List.flatMap_cons, ← Multiset.coe_add]
  abel

/-- A slot replaced gives up the chain it held and brings in the one it then holds. -/
theorem setSlot_pool (s : State) (n : SlotNo) (x : Slot) :
    (s.setSlot n x).pool + ↑(slotChain s.slots[n]) = s.pool + ↑(slotChain x) := by
  have slots : (s.setSlot n x).slotBlocks + ↑(slotChain s.slots[n]) = s.slotBlocks + ↑(slotChain x) := by
    have bound : n.val < s.slots.toList.length := by simp
    have set := flatMap_set_add slotChain s.slots.toList bound x
    simpa [State.slotBlocks, State.setSlot, Vector.toList_set] using set
  have frame : (s.setSlot n x).pool = ↑s.freeList + (s.setSlot n x).slotBlocks + s.queueBlocks + s.sentBlocks :=
    pool_eq _
  calc
    _ = ↑s.freeList + s.queueBlocks + s.sentBlocks + ((s.setSlot n x).slotBlocks + ↑(slotChain s.slots[n])) := by
      rw [frame]; abel
    _ = s.pool + ↑(slotChain x) := by rw [slots, pool_eq s]; abel

/-- A chain that grows by blocks brings these in. -/
theorem setSlot_pool_grown {s : State} {n : SlotNo} {x : Slot} {blocks : List BlockNo}
    (grown : slotChain x = slotChain s.slots[n] ++ blocks) : (s.setSlot n x).pool = s.pool + ↑blocks := by
  have replaced := setSlot_pool s n x
  rw [grown, ← Multiset.coe_add, add_left_comm, add_comm] at replaced
  exact add_left_cancel replaced

/-- A descriptor that joins a queue brings its chain in (R79). -/
theorem enqueue_pool (s : State) (cls : BundleClass) (d : Descriptor) :
    (s.setQueue cls (s.queue cls ++ [d])).pool = s.pool + ↑d.chain := by
  refine pool_gains_of_queues ?_ ?_
  · cases cls <;> rfl
  · cases cls <;>
      simp only [State.queueBlocks, State.setQueue, State.queue, List.flatMap_append, List.flatMap_singleton,
        ← Multiset.coe_add] <;> abel

/-- The head of a queue leaves it with its chain (R81). -/
theorem dequeue_pool {s : State} {cls : BundleClass} {d : Descriptor} {rest : List Descriptor}
    (queue : s.queue cls = d :: rest) : (s.setQueue cls rest).pool + ↑d.chain = s.pool := by
  refine (pool_gains_of_queues ?_ ?_).symm
  · cases cls <;> rfl
  · cases cls <;> simp only [State.queue] at queue <;>
      simp only [State.queueBlocks, State.setQueue, queue, List.flatMap_cons, ← Multiset.coe_add] <;> abel

/-- A bundle that joins the Retention List brings its chain in (R107). -/
theorem retain_pool (s : State) (e : Retained) :
    State.pool { s with retention := s.retention ++ [e] } = s.pool + ↑e.desc.chain := by
  refine pool_gains_of_sent rfl ?_
  simp only [State.sentBlocks, List.flatMap_append, List.flatMap_singleton, ← Multiset.coe_add]
  abel

/-- The oldest retained bundle leaves the list with its chain (R111). -/
theorem unretain_pool {s : State} {e : Retained} {rest : List Retained} (retention : s.retention = e :: rest) :
    State.pool { s with retention := rest } + ↑e.desc.chain = s.pool := by
  refine Eq.symm (pool_gains_of_sent ?_ ?_)
  · rfl
  · simp only [State.sentBlocks, retention, List.flatMap_cons, ← Multiset.coe_add]
    abel

/-- An empty released-bundle hold takes a chain in (R111). -/
theorem fillHold_pool {s : State} (empty : s.releasedHold = none) (chain : List BlockNo) :
    State.pool { s with releasedHold := some chain } = s.pool + ↑chain := by
  refine pool_gains_of_sent rfl ?_
  simp only [State.sentBlocks, empty, Option.getD_none, Option.getD_some, Multiset.coe_nil, add_zero]

/-- The released-bundle hold emptied lets go of the chain it held. -/
theorem emptyHold_pool {s : State} {chain : List BlockNo} (held : s.releasedHold = some chain) :
    State.pool { s with releasedHold := none } + ↑chain = s.pool := by
  refine Eq.symm (pool_gains_of_sent ?_ ?_)
  · rfl
  · simp only [State.sentBlocks, held, Option.getD_none, Option.getD_some, Multiset.coe_nil, add_zero]

/-! ### The Event Unit and the pool's own checks -/

theorem EventReach.pool {s t : State} (h : EventReach s t) : t.pool = s.pool := by
  rw [h]
  rfl

theorem raise_pool (s : State) (e : Event) : (raise s e).pool = s.pool := (raise_reach s e).pool

theorem checkPoolLow_pool (s : State) : (checkPoolLow s).pool = s.pool := by
  unfold checkPoolLow
  split
  · exact raise_pool _ _
  · rfl

theorem checkPoolExhausted_pool (s : State) : (checkPoolExhausted s).pool = s.pool := by
  unfold checkPoolExhausted
  split
  · exact raise_pool _ _
  · rfl

theorem rearmPool_pool (s : State) : (rearmPool s).pool = s.pool := by
  unfold rearmPool
  split <;> rfl

/-- What a grant gives is gone from the Free List, and no holder has it yet (R70). -/
theorem grant_pool (s : State) (k : Nat) : (grant s k).1.pool + ↑((grant s k).2.getD []) = s.pool := by
  unfold grant
  split
  · have granted : (↑(s.freeList.drop k) + ↑(s.freeList.take k) : Multiset BlockNo) = ↑s.freeList := by
      rw [add_comm, Multiset.coe_add, List.take_append_drop]
    have frame : State.pool { s with freeList := s.freeList.drop k, minFree := min s.minFree (s.freeList.length - k) }
        = ↑(s.freeList.drop k) + s.slotBlocks + s.queueBlocks + s.sentBlocks := pool_eq _
    rw [checkPoolLow_pool, frame, pool_eq s, ← granted, Option.getD_some]
    abel
  · rw [checkPoolExhausted_pool, Option.getD_none, Multiset.coe_nil, add_zero]
    rfl

theorem grant_pool_some {s u : State} {k : Nat} {blocks : List BlockNo} (h : grant s k = (u, some blocks)) :
    u.pool + ↑blocks = s.pool := by
  have given := grant_pool s k
  rw [h] at given
  exact given

theorem grant_pool_none {s u : State} {k : Nat} (h : grant s k = (u, none)) : u.pool = s.pool := by
  have refused := grant_pool s k
  rw [h] at refused
  exact (add_zero _).symm.trans refused

/-- A chain returned joins the Free List (R72). -/
theorem returnChain_pool (s : State) (chain : List BlockNo) : (returnChain s chain).pool = s.pool + ↑chain := by
  have frame : State.pool { s with freeList := s.freeList ++ chain }
      = ↑(s.freeList ++ chain) + s.slotBlocks + s.queueBlocks + s.sentBlocks := pool_eq _
  unfold returnChain
  rw [rearmPool_pool, frame, pool_eq s, ← Multiset.coe_add]
  abel

/-! ### The Slot Table: closes, openings, appends (R48, R55, R56) -/

theorem closeSlot_pool (s : State) (n : SlotNo) (cause : CloseCause) : (closeSlot s n cause).pool = s.pool := by
  by_cases opened : slotOpen s.slots[n] = true
  · obtain ⟨b, idle, age, hs⟩ := (slotOpen_iff _).mp opened
    rw [closeSlot_opened hs]
    refine (setCloseOrder_pool _ _ _).trans ?_
    refine (setSlot_pool_grown (blocks := []) ?_).trans (add_zero _)
    rw [hs, List.append_nil]
    rfl
  · rw [closeSlot_of_not_open (Bool.eq_false_iff.mpr opened)]

theorem closeAll_pool (s : State) (cause : CloseCause) : (closeAll s cause).pool = s.pool :=
  closeAll_keeps (P := fun u => u.pool = s.pool) (fun u n hu => (closeSlot_pool u n cause).trans hu) rfl

theorem closeProfile_pool (s : State) (p : Fin 32) (cause : CloseCause) : (closeProfile s p cause).pool = s.pool := by
  unfold closeProfile
  split
  · exact closeSlot_pool s _ cause
  · rfl

theorem idleExpiry_pool (s : State) (n : SlotNo) : (idleExpiry s n).pool = s.pool := by
  unfold idleExpiry
  split
  · split
    · exact closeSlot_pool s n _
    · rfl
  · rfl

theorem ageExpiry_pool (s : State) (n : SlotNo) : (ageExpiry s n).pool = s.pool := by
  unfold ageExpiry
  split
  · split
    · exact closeSlot_pool s n _
    · rfl
  · rfl

theorem postAppend_pool (s : State) (n : SlotNo) (r : TakenRecord) : (postAppend s n r).pool = s.pool := by
  unfold postAppend
  split
  · exact closeSlot_pool s n _
  · split
    · exact closeSlot_pool s n _
    · split
      · split
        · exact closeSlot_pool s n _
        · rfl
      · rfl

/-- An entry appended brings the granted block into the chain of the OPEN slot (R55). -/
theorem appendEntry_pool {s : State} {n : SlotNo} {b : Bundle} {idle age : Option PartTime}
    (opened : s.slots[n] = .opened b idle age) (r : TakenRecord) (blocks : List BlockNo) :
    (appendEntry s n b age r blocks).pool = s.pool + ↑blocks := by
  refine (postAppend_pool _ n r).trans (setSlot_pool_grown ?_)
  change b.chain ++ blocks = slotChain s.slots[n] ++ blocks
  rw [opened]
  rfl

/-- An opening brings the granted blocks into the slot that was IDLE (R56). -/
theorem openSlot_pool {s : State} {n : SlotNo} (vacant : s.slots[n] = .idle) (p : Fin 32) (r : TakenRecord)
    (blocks : List BlockNo) : (openSlot s n p r blocks).pool = s.pool + ↑blocks := by
  refine (postAppend_pool _ n r).trans (setSlot_pool_grown ?_)
  change blocks = slotChain s.slots[n] ++ blocks
  rw [vacant]
  rfl

/-! ### A placement and its trials (R54, R59) -/

theorem startEviction_pool (s : State) : (startEviction s).pool = s.pool := by
  unfold startEviction
  split
  · exact closeSlot_pool s _ .evicted
  · rfl

theorem placeNew_pool (s : State) (p : Fin 32) (r : TakenRecord) : (placeNew s p r).1.pool = s.pool := by
  unfold placeNew
  split
  · rename_i n found
    have quiet := grant_quiet s (openNeed s s.profiles[p] r)
    split <;> rename_i outcome
    · rw [outcome] at quiet
      rw [openSlot_pool (quiet.slots ▸ lowestIdle_eq_some found)]
      exact grant_pool_some outcome
    · exact grant_pool_none outcome
  · exact startEviction_pool s

theorem placeValid_pool (s : State) (p : Fin 32) (r : TakenRecord) : (placeValid s p r).1.pool = s.pool := by
  unfold placeValid
  split
  · exact placeNew_pool s p r
  · rename_i n b age found
    obtain ⟨idle, opened, _⟩ := openSlotOf_eq_some found
    dsimp only
    split
    · exact (placeNew_pool _ p r).trans (closeSlot_pool s n _)
    · split
      · exact (appendEntry_pool opened r []).trans (add_zero _)
      · have quiet := grant_quiet s 1
        split <;> rename_i outcome
        · rw [outcome] at quiet
          rw [appendEntry_pool (idle := idle) (quiet.slots ▸ opened)]
          exact grant_pool_some outcome
        · exact (closeSlot_pool _ n _).trans (grant_pool_none outcome)

/-- A placement attempt only moves blocks from the Free List into a chain, however it ends. -/
theorem place_pool (s : State) (p : Fin 32) (r : TakenRecord) : (place s p r).1.pool = s.pool := by
  have placed := placeValid_pool s p r
  unfold place
  split
  · split
    · rename_i outcome
      rw [outcome] at placed
      exact placed
    · exact placed
  · rfl

theorem tryHeld_pool (s : State) : (tryHeld s).pool = s.pool := by
  unfold tryHeld
  split
  · rename_i h _ _
    have placed := place_pool s h.profile h.taken
    split <;> rename_i outcome <;> rw [outcome] at placed <;> exact placed
  · rfl

theorem tryHeldFor_pool (s : State) (p : Fin 32) : (tryHeldFor s p).pool = s.pool := by
  unfold tryHeldFor
  split
  · split
    · exact tryHeld_pool s
    · rfl
  · rfl

theorem handOver_pool (s : State) (p : Fin 32) (r : TakenRecord) : (handOver s p r).pool = s.pool := by
  have placed := place_pool s p r
  unfold handOver
  split <;> rename_i outcome <;> rw [outcome] at placed <;> exact placed

theorem giveBack_pool (s : State) (chain : List BlockNo) : (giveBack s chain).pool = s.pool + ↑chain :=
  (tryHeld_pool _).trans (returnChain_pool s chain)

/-! ### Chains that leave the Slot Table (R63, R64) -/

/-- A CLOSED slot made IDLE lets go of its chain. -/
theorem vacate_pool {s : State} {n : SlotNo} {b : Bundle} {cause : CloseCause} {c : BundleClass}
    (closed : s.slots[n] = .closed b cause c) (cls : BundleClass) : (vacate s n cls).pool + ↑b.chain = s.pool := by
  have replaced := setSlot_pool (s.setCloseOrder cls ((s.closeOrder cls).erase n)) n .idle
  rw [State.setCloseOrder_slots, closed, setCloseOrder_pool] at replaced
  exact replaced.trans (add_zero _)

/-- The discard of a CLOSED slot hands its chain over to the Free List (R64). -/
theorem discardSlot_pool {s : State} (not_run : s.opState ≠ .run) (n : SlotNo) :
    (discardSlot s n).pool = s.pool := by
  by_cases closed : ∃ b cause cls, s.slots[n] = .closed b cause cls
  · obtain ⟨b, cause, cls, closed⟩ := closed
    have still : (giveBack s b.chain).slots[n] = .closed b cause cls := by
      rw [(giveBack_quiet_of_not_run not_run b.chain).slots, closed]
    have vacated : (discardSlot s n).pool = (vacate (giveBack s b.chain) n cls).pool := by
      unfold discardSlot
      rw [closed]
      cases cls <;> rfl
    have moved := (vacate_pool still cls).trans (giveBack_pool s b.chain)
    rw [vacated]
    exact add_right_cancel moved
  · rw [discardSlot_of_not_closed fun b cause cls hs => closed ⟨b, cause, cls, hs⟩]

theorem discardSlot_opState {s : State} (not_run : s.opState ≠ .run) (n : SlotNo) :
    (discardSlot s n).opState = s.opState := by
  by_cases closed : ∃ b cause cls, s.slots[n] = .closed b cause cls
  · obtain ⟨b, cause, cls, closed⟩ := closed
    rw [(discardSlot_of_closed closed).opState, vacate_opState, (giveBack_quiet_of_not_run not_run _).opState]
  · rw [discardSlot_of_not_closed fun b cause cls hs => closed ⟨b, cause, cls, hs⟩]

theorem discardClosed_pool {s : State} (not_run : s.opState ≠ .run) : (discardClosed s).pool = s.pool := by
  unfold discardClosed
  generalize s.closeExpress ++ s.closeBulk = l
  induction l generalizing s with
  | nil => rfl
  | cons n l ih =>
    have op := discardSlot_opState not_run n
    exact (ih (op ▸ not_run)).trans (discardSlot_pool not_run n)

theorem endDrain_pool (s : State) (status : Status) (result : List Byte) :
    (endDrain s status result).pool = s.pool := by
  unfold endDrain
  dsimp only
  repeat' split
  all_goals rfl

theorem slotBecameIdle_pool (s : State) : (slotBecameIdle s).pool = s.pool := by
  unfold slotBecameIdle
  split
  · exact tryHeld_pool s
  · split
    · exact endDrain_pool s _ _
    · rfl
  · rfl

/-- A move takes a chain from its slot to the tail of the class's queue (R63). -/
theorem moveHead_pool (s : State) (cls : BundleClass) : (moveHead s cls).pool = s.pool := by
  obtain stays | ⟨n, rest, b, cause, qc, _, closed, moves⟩ := moveHead_cases s cls
  · rw [stays]
  · have same : s.queue cls = (vacate s n cls).queue cls := by
      cases cls <;> rfl
    rw [moves, slotBecameIdle_pool, same, enqueue_pool]
    exact vacate_pool closed cls

/-- The drain timer's expiry hands the chains of the discarded slots over to the Free List (R64, R149). -/
theorem expireDrain_pool (s : State) : (expireDrain s).pool = s.pool := by
  unfold expireDrain
  split
  · rename_i draining _
    split
    · exact ((endDrain_pool _ _ _).trans (raise_pool _ _)).trans (discardClosed_pool (draining ▸ nofun))
    · rfl
  · rfl

end Sys2Proof.Machine
end

section
/-! Proofs: what the trunk, the field ports, the Dispatch Unit and the Management Unit do to the Block Pool, and that every step keeps each of the 512 blocks in one place (R75). -/

namespace Sys2Proof.Machine

open Safety

/-! ### Retention List and released-bundle hold (R107, R111) -/

/-- A change of retained bundles that keeps each one's descriptor leaves the pool as it is. -/
theorem retention_pool {s t : State} (same : State.pool { t with retention := s.retention } = s.pool)
    (descs : t.retention.map Retained.desc = s.retention.map Retained.desc) : t.pool = s.pool := by
  have chains (l : List Retained) :
      (l.flatMap fun e => e.desc.chain) = (l.map Retained.desc).flatMap Descriptor.chain :=
    (List.flatMap_map Retained.desc Descriptor.chain l).symm
  have sent : t.sentBlocks = State.sentBlocks { t with retention := s.retention } := by
    simp only [State.sentBlocks, chains, descs]
  rw [← same, pool_eq t, sent]
  exact (pool_eq _).symm

/-- The hold is empty while the bundle in transmission is retained (log 15). -/
theorem releasedHold_of_beingSent {s : State} {seq : Word16} (h : s.beingSent seq = true) :
    s.releasedHold = none := by
  unfold State.beingSent at h
  split at h
  · exact Option.isNone_iff_eq_none.mp (Bool.and_eq_true_iff.mp h).2
  · cases h

/-- A bundle removed from the Retention List passes its chain on, to the Free List or to the released-bundle hold, which is then empty (R111). -/
theorem removeOldest_pool (k : Nat) (s : State) : (removeOldest k s).pool = s.pool := by
  induction k generalizing s with
  | zero => rfl
  | succ k ih =>
    unfold removeOldest
    split
    · rfl
    · rename_i e rest retention
      dsimp only
      split
      · rename_i sent
        have empty : State.releasedHold { s with retention := rest } = none := releasedHold_of_beingSent sent
        exact ((ih _).trans (fillHold_pool empty _)).trans (unretain_pool retention)
      · exact ((ih _).trans (giveBack_pool _ _)).trans (unretain_pool retention)

theorem returnHold_pool (s : State) : (returnHold s).pool = s.pool := by
  unfold returnHold
  split
  · rfl
  · rename_i chain held
    exact (giveBack_pool _ chain).trans (emptyHold_pool held)

/-! ### The trunk (R96, R98, R106 to R114) -/

/-- A new bundle's chain goes from its queue to the Retention List (R81). -/
theorem startNewBundle_pool (s : State) (cls : BundleClass) : (startNewBundle s cls).pool = s.pool := by
  unfold startNewBundle
  split
  · rfl
  · rename_i d rest queue
    have retained := retain_pool (s.setQueue cls rest) ⟨d, s.nextSeq, 0, false⟩
    rw [State.setQueue_retention] at retained
    rw [moveHead_pool]
    dsimp only
    rw [State.setQueue_retention, State.setQueue_nextSeq]
    exact retained.trans (dequeue_pool queue)

theorem startFirst_pool (s : State) : (startFirst s).pool = s.pool := by
  unfold startFirst
  split
  · split
    · rfl
    · exact startNewBundle_pool s _
  · rfl

theorem startRetransmission_pool (s : State) : (startRetransmission s).pool = s.pool := by
  unfold startRetransmission
  split
  · rfl
  · split
    · refine retention_pool rfl (modRetained_descs _ _ ?_ _)
      exact fun _ => rfl
    · rfl

theorem completeBundle_pool (s : State) : (completeBundle s).pool = s.pool := by
  unfold completeBundle
  split
  · split
    · exact returnHold_pool _
    · refine retention_pool rfl (modRetained_descs _ _ ?_ _)
      exact fun _ => rfl
  · rfl

theorem stall_pool (s : State) : (stall s).pool = s.pool := by
  unfold stall
  dsimp only
  split
  · rfl
  · exact raise_pool _ _

theorem retryCheck_pool (s : State) : (retryCheck s).pool = s.pool := by
  unfold retryCheck
  split
  · rfl
  · split
    · exact stall_pool s
    · rfl

theorem expireAck_pool (s : State) : (expireAck s).pool = s.pool := by
  unfold expireAck
  split
  · split
    · split
      · exact stall_pool s
      · rfl
    · rfl
  · rfl

theorem takeAck_pool (s : State) (n : Word16) : (takeAck s n).pool = s.pool := by
  unfold takeAck
  split
  · rfl
  · exact removeOldest_pool _ s

theorem takeNak_pool (s : State) (n : Word16) : (takeNak s n).pool = s.pool := by
  unfold takeNak
  split
  · rfl
  · exact removeOldest_pool _ s

theorem takeSync_pool (s : State) : (takeSync s).pool = s.pool := by
  have descs : (s.retention.map fun e => { e with retry := 0 }).map Retained.desc
      = s.retention.map Retained.desc := by
    rw [List.map_map]
    rfl
  unfold takeSync
  split
  · rfl
  · split
    · rfl
    · dsimp only
      split
      · exact (raise_pool _ _).trans (retention_pool rfl descs)
      · exact retention_pool rfl descs

theorem abortTransmission_pool (s : State) : (abortTransmission s).pool = s.pool := by
  unfold abortTransmission
  split
  case h_5 => exact returnHold_pool _
  all_goals rfl

theorem linkDown_pool (s : State) : (linkDown s).pool = s.pool := abortTransmission_pool s

theorem countBadLength_pool (s : State) : (countBadLength s).pool = s.pool := by
  unfold countBadLength
  split <;> rfl

theorem discardFrame_pool (s : State) (frame : List Byte) : (discardFrame s frame).pool = s.pool := by
  unfold discardFrame
  repeat' split
  all_goals rfl

theorem startHello_pool (s : State) : (startHello s).pool = s.pool := by
  unfold startHello
  split <;> rfl

theorem completeHello_pool (s : State) : (completeHello s).pool = s.pool := by
  unfold completeHello
  split <;> rfl

theorem expireHello_pool (s : State) : (expireHello s).pool = s.pool := by
  unfold expireHello
  repeat' split
  all_goals rfl

theorem startControl_pool (s : State) : (startControl s).pool = s.pool := by
  unfold startControl
  repeat' split
  all_goals rfl

theorem startEvent_pool (s : State) : (startEvent s).pool = s.pool := by
  unfold startEvent
  repeat' split
  all_goals rfl

theorem completeEvent_pool (s : State) : (completeEvent s).pool = s.pool := by
  unfold completeEvent
  split <;> rfl

theorem ageHistory_pool (s : State) : (ageHistory s).pool = s.pool := by
  unfold ageHistory
  repeat' split
  all_goals rfl

/-! ### Classifier, field ports and Dispatch Unit -/

theorem reportOverflow_pool (s : State) (p : PortNo) : (reportOverflow s p).pool = s.pool := by
  unfold reportOverflow
  split
  · exact raise_pool _ _
  · rfl

theorem reportMiss_pool (s : State) (r : TakenRecord) : (reportMiss s r).pool = s.pool := by
  unfold reportMiss
  split
  · exact raise_pool _ _
  · rfl

theorem reportUndelivered_pool (s : State) (p : PortNo) (r : PortTxRecord) (reason : UndeliveredReason) :
    (reportUndelivered s p r reason).pool = s.pool := by
  unfold reportUndelivered
  split
  · exact raise_pool _ _
  · rfl

theorem classified_pool (s : State) (r : TakenRecord) : (classified s r).pool = s.pool := by
  unfold classified handleHit handleMiss
  split
  · dsimp only
    split
    · rfl
    · exact handOver_pool _ _ r
  · dsimp only
    split
    · exact reportMiss_pool s r
    · exact (handOver_pool _ _ r).trans (reportMiss_pool s r)

theorem classifierTake_pool (s : State) : (classifierTake s).pool = s.pool := by
  cases next : s.nextTake with
  | none =>
    unfold classifierTake
    rw [next]
  | some taken =>
    obtain ⟨p, r, rest⟩ := taken
    rw [classifierTake_of_next next]
    exact classified_pool _ _

theorem writeHeader_pool (s : State) (p : PortNo) (v : Byte) : (writeHeader s p v).pool = s.pool := by
  unfold writeHeader overflowAtHeader
  split
  · exact reportOverflow_pool _ p
  · rfl

theorem takeHeader_pool (s : State) (p : PortNo) (v : Byte) : (takeHeader s p v).pool = s.pool := by
  simp only [takeHeader, apply_ite State.pool, setPort_pool, writeHeader_pool, ite_self]

theorem takePayload_pool (s : State) (p : PortNo) (v : Byte) : (takePayload s p v).pool = s.pool := by
  simp only [takePayload, apply_ite State.pool, setPort_pool, reportOverflow_pool, ite_self]

theorem takeCheck_pool (s : State) (p : PortNo) (v : Byte) : (takeCheck s p v).pool = s.pool := by
  unfold takeCheck
  dsimp only
  repeat' split
  all_goals rfl

theorem takeCharacter_pool (s : State) (p : PortNo) (v : Byte) (framing : Bool) :
    (takeCharacter s p v framing).pool = s.pool := by
  unfold takeCharacter
  split
  case h_1 => rfl
  case h_2 => split <;> rfl
  case h_3 => split; exacts [rfl, takeHeader_pool s p v]
  case h_4 => split; exacts [rfl, takePayload_pool s p v]
  case h_5 => split; exacts [rfl, takeCheck_pool s p v]
  case h_6 => split <;> rfl

theorem byteGapExpiry_pool (s : State) (p : PortNo) : (byteGapExpiry s p).pool = s.pool := by
  unfold byteGapExpiry
  repeat' split
  all_goals rfl

theorem fieldFrameDone_pool (s : State) (p : PortNo) : (fieldFrameDone s p).pool = s.pool := by
  unfold fieldFrameDone
  split
  · rfl
  · dsimp only
    split
    · exact raise_pool _ _
    · rfl

theorem abortSending_pool (s : State) (p : PortNo) : (abortSending s p).pool = s.pool := by
  unfold abortSending
  split
  · rfl
  · exact reportUndelivered_pool _ p _ _

theorem discardQueued_pool (s : State) (p : PortNo) (l : List PortTxRecord) : (discardQueued s p l).pool = s.pool := by
  induction l generalizing s with
  | nil => rfl
  | cons r l ih => exact (ih _).trans (reportUndelivered_pool _ p r _)

theorem disablePort_pool (s : State) (p : PortNo) : (disablePort s p).pool = s.pool :=
  (discardQueued_pool _ p _).trans (abortSending_pool _ p)

theorem controlPort_pool (s : State) (p : PortNo) (enable : Bool) (rate : BitRate) (maxLen : Byte) :
    (controlPort s p enable rate maxLen).state.pool = s.pool := by
  unfold controlPort
  split
  · exact disablePort_pool s p
  · repeat' split
    all_goals rfl

theorem admitEntries_pool (s : State) (seq : Word16) (index : Nat) (es : List DispatchEntry) :
    (admitEntries s seq index es).pool = s.pool := by
  induction es generalizing s index with
  | nil => rfl
  | cons e es ih =>
    refine (ih _ _).trans ?_
    unfold admitEntry
    dsimp only
    split
    · rfl
    · exact reportUndelivered_pool _ _ _ _
    · exact reportUndelivered_pool _ _ _ _

theorem takeExpected_pool (s : State) (seq : Word16) (es : List DispatchEntry) :
    (takeExpected s seq es).pool = s.pool := by
  unfold takeExpected
  split
  · rfl
  · split
    · exact admitEntries_pool s seq 0 es
    · rfl

theorem takeDispatch_pool (s : State) (seq : Word16) (es : List DispatchEntry) :
    (takeDispatch s seq es).pool = s.pool := by
  unfold takeDispatch
  split
  · rfl
  · split
    · rfl
    · rfl
    · exact takeExpected_pool s seq es

theorem tick_pool (s : State) : (tick s).pool = s.pool := by
  unfold tick
  split
  · rfl
  · rw [moveStraps_eq]
    rfl

/-! ### Gates and requests -/

theorem received_pool {s : State} {f : State → State} (h : (f s).pool = s.pool) : (received s f).pool = s.pool := by
  obtain passes | taken | counted := received_cases s f
  · rw [passes]
  · rw [taken, h]
  · rw [counted]
    rfl

/-- A request's own effect decides: the Reply Cache, the reply and the counters hold no block (R136). -/
theorem takeRequest_pool {run : State → Execution} (h : ∀ u, (run u).state.pool = u.pool) (s : State) (id : Word16)
    (code : Byte) : (takeRequest s id code run).pool = s.pool := by
  unfold takeRequest
  split
  · rfl
  · split
    · dsimp only
      split <;> rfl
    · dsimp only
      split <;> exact h _

theorem quiesceRun_pool (s : State) (timeout : Word16) : (quiesceRun s timeout).state.pool = s.pool := by
  unfold quiesceRun
  split
  · rfl
  · exact closeAll_pool _ _

theorem clearGroup_pool (s : State) (g : CounterGroup) : (clearGroup s g).pool = s.pool := by
  cases g <;> rfl

/-! ### Resets (section 8.6) -/

theorem allBlocks_eq_finRange : allBlocks = List.finRange 512 := by
  refine List.ext_getElem (by simp [allBlocks]) fun i hi _ => Fin.ext ?_
  simp only [allBlocks, List.length_map, List.length_range] at hi
  simp [allBlocks, Nat.mod_eq_of_lt hi]

/-- A pin reset leaves no holder, so that the Free List holds every block. -/
theorem reset_pool : State.reset.pool = fullPool := by
  have free : State.reset.freeList = allBlocks := by simp only [State.reset]
  have slots : State.reset.slots.toList = List.replicate 16 .idle := Vector.toList_replicate
  have held : heldBlocks State.reset = [] := by
    unfold heldBlocks
    rw [slots]
    rfl
  unfold State.pool fullPool
  rw [free, held, List.append_nil, allBlocks_eq_finRange]

theorem resetValues_pool (s : State) : (resetValues s).pool = fullPool := by
  rw [← reset_pool]
  simp only [State.pool, heldBlocks, resetValues]

theorem performReset_pool (s : State) (level : ResetLevel) : (performReset s level).pool = fullPool := by
  rw [← resetValues_pool s]
  cases level <;> simp only [State.pool, heldBlocks, performReset]

/-! ### The commands -/

/-- Blocks have at most changed places between Free List and holders, or a reset has put them all into the Free List. -/
def PoolKept (s t : State) : Prop := t.pool = s.pool ∨ t.pool = fullPool

/-- The answer `o` is a state that keeps the blocks of `s` so. -/
def KeepsPool (s : State) (o : Host.Outcome State Fault Refusal) : Prop := ∀ t, o = .next t → PoolKept s t

theorem KeepsPool.next {s t : State} (h : PoolKept s t) : KeepsPool s (.next t) := by
  rintro _ ⟨⟩
  exact h

/-- The gate `live`, with what is done behind it (R158). -/
theorem KeepsPool.gated {s t : State} (h : PoolKept s t) : KeepsPool s (.next (if s.held then s else t)) := by
  refine .next ?_
  split
  · exact .inl rfl
  · exact h

theorem KeepsPool.live {s t : State} (same : t.pool = s.pool) : KeepsPool s (.next (if s.held then s else t)) :=
  .gated (.inl same)

theorem KeepsPool.command {run : State → Execution} (h : ∀ u, (run u).state.pool = u.pool) (s : State) (id : Word16)
    (code : Byte) : KeepsPool s (command s id code run) :=
  .live (received_pool (takeRequest_pool h s id code))

theorem controlEnded_poolKept (s : State) (e : ControlEntry) : PoolKept s (controlEnded s e) := by
  unfold controlEnded
  split
  · split
    · exact .inr (performReset_pool s _)
    · exact .inl rfl
  · exact .inl rfl

theorem loseCarrier_poolKept (s : State) : PoolKept s (loseCarrier s) := by
  unfold loseCarrier
  split
  · exact (controlEnded_poolKept (linkDown s) _).imp_left fun same => same.trans (linkDown_pool s)
  · exact .inl (linkDown_pool s)

theorem completeControl_poolKept (s : State) : PoolKept s (completeControl s) := by
  unfold completeControl
  split
  · exact controlEnded_poolKept { s with tx := none } _
  · exact .inl rfl

theorem expireReset_poolKept (s : State) : PoolKept s (expireReset s) := by
  unfold expireReset
  split
  · split
    · exact .inr (performReset_pool s _)
    · exact .inl rfl
  · exact .inl rfl

theorem execCarrierLoss_keepsPool (s : State) : KeepsPool s (execCarrierLoss s) := by
  refine .next ?_
  split
  · exact .inl rfl
  · split
    · exact .inl rfl
    · exact loseCarrier_poolKept s

theorem execCarrierGain_keepsPool (s : State) : KeepsPool s (execCarrierGain s) := by
  refine .next (.inl ?_)
  split
  · rfl
  · split <;> rfl

theorem execDispatch_keepsPool (seq : Word16) (entries : List DispatchEntry) (s : State) :
    KeepsPool s (execDispatch seq entries s) := by
  refine .live ?_
  split
  · exact received_pool (takeDispatch_pool s seq entries)
  · exact countBadLength_pool s

theorem execPinResetComplete_keepsPool (straps : BitVec 4) (s : State) :
    KeepsPool s (execPinResetComplete straps s) := by
  refine .next ?_
  split
  · exact .inr (resetValues_pool _)
  · exact .inl rfl

theorem execPowerOn_keepsPool (s : State) : KeepsPool s (execPowerOn s) := by
  refine .next (.inr ?_)
  rw [← resetValues_pool s]
  simp only [State.pool, heldBlocks, heldValues]

theorem execResetNAsserted_keepsPool (s : State) : KeepsPool s (execResetNAsserted s) := by
  refine .next (.inr ?_)
  rw [← resetValues_pool s]
  simp only [State.pool, heldBlocks, heldValues]

theorem execSetConfig_keepsPool (id : Word16) (record : ConfigRecord) (s : State) :
    KeepsPool s (execSetConfig id record s) := by
  refine .command (fun u => ?_) s id codeSetConfig
  split
  · rfl
  · split <;> rfl

theorem execWriteProfile_keepsPool (id : Word16) (profile : Byte) (record : ProfileRecord) (s : State) :
    KeepsPool s (execWriteProfile id profile record s) := by
  refine .command (fun u => ?_) s id codeWriteProfile
  split
  · exact (tryHeldFor_pool _ _).trans (closeProfile_pool _ _ _)
  · rfl

theorem execWriteTemplate_keepsPool (id : Word16) (template length : Byte) (bytes : List Byte) (s : State) :
    KeepsPool s (execWriteTemplate id template length bytes s) := by
  unfold execWriteTemplate
  split
  · refine .command (fun u => ?_) s id codeWriteTemplate
    split <;> rfl
  · exact .live (countBadLength_pool s)

theorem execFlush_keepsPool (id : Word16) (profile : Byte) (s : State) : KeepsPool s (execFlush id profile s) := by
  refine .command (fun u => ?_) s id codeFlush
  split
  · exact closeAll_pool u _
  · split
    · exact closeProfile_pool u _ _
    · rfl

theorem execQuiesce_keepsPool (id : Word16) (timeout : Word16) (s : State) :
    KeepsPool s (execQuiesce id timeout s) := by
  refine .command (fun u => ?_) s id codeQuiesce
  split
  · rfl
  · split
    · exact quiesceRun_pool u timeout
    · rfl
    · rfl

theorem execResume_keepsPool (id : Word16) (s : State) : KeepsPool s (execResume id s) := by
  refine .command (fun u => ?_) s id codeResume
  split
  · exact tryHeld_pool _
  · rfl
  · rfl

theorem execPortControl_keepsPool (id : Word16) (port enable bitRate maxLen : Byte) (s : State) :
    KeepsPool s (execPortControl id port enable bitRate maxLen s) := by
  refine .command (fun u => ?_) s id codePortControl
  split
  · rfl
  · split
    · exact controlPort_pool u _ _ _ _
    · rfl

theorem execReadCounters_keepsPool (id : Word16) (group port first count clear : Byte) (s : State) :
    KeepsPool s (execReadCounters id group port first count clear s) := by
  refine .command (fun u => ?_) s id codeReadCounters
  split
  · rfl
  · rename_i g _
    dsimp only
    split
    · change (if clear = 1 then clearGroup u g else u).pool = u.pool
      split
      · exact clearGroup_pool u g
      · rfl
    · rfl

theorem execResetPart_keepsPool (id : Word16) (level : Byte) (s : State) :
    KeepsPool s (execResetPart id level s) := by
  refine .command (fun u => ?_) s id codeResetPart
  split
  · rfl
  · split <;> rfl

theorem execUnknownCommand_keepsPool (id : Word16) (code : Byte) (params : List Byte) (s : State) :
    KeepsPool s (execUnknownCommand id code params s) := by
  unfold execUnknownCommand
  split
  · exact .live (countBadLength_pool s)
  · split
    · exact .command (fun _ => rfl) s id code
    · exact .next (.inl rfl)

/-- Every command keeps the pool so. -/
theorem exec_keepsPool (c : Instr) (s : State) : KeepsPool s (exec c s) := by
  cases c with
  | characterArrival p v framing => exact .live (takeCharacter_pool s p v framing)
  | byteGapTimerExpiry p => exact .live (byteGapExpiry_pool s p)
  | classifierTake => exact .live (classifierTake_pool s)
  | idleTimeout n => exact .live (idleExpiry_pool s n)
  | ageTimeout n => exact .live (ageExpiry_pool s n)
  | slotMove cls => exact .live (moveHead_pool s cls)
  | startHistoryAgeing => exact .live (ageHistory_pool s)
  | helloStart => exact .live (startHello_pool s)
  | helloComplete => exact .live (completeHello_pool s)
  | controlFrameStart => exact .live (startControl_pool s)
  | controlFrameComplete => exact .gated (completeControl_poolKept s)
  | eventFrameStart => exact .live (startEvent_pool s)
  | eventFrameComplete => exact .live (completeEvent_pool s)
  | firstTransmissionStart => exact .live (startFirst_pool s)
  | retransmissionStart => exact .live (startRetransmission_pool s)
  | retryCheckAtLimit => exact .live (retryCheck_pool s)
  | bundleTransmissionComplete => exact .live (completeBundle_pool s)
  | ackTimerExpiry => exact .live (expireAck_pool s)
  | helloTimerExpiry => exact .live (expireHello_pool s)
  | carrierLoss => exact execCarrierLoss_keepsPool s
  | carrierGain => exact execCarrierGain_keepsPool s
  | trunkFrameDiscard frame => exact .live (discardFrame_pool s frame)
  | sync => exact .live (takeSync_pool s)
  | bundleAck seq => exact .live (received_pool (takeAck_pool s seq))
  | bundleNak seq => exact .live (received_pool (takeNak_pool s seq))
  | dispatch seq entries => exact execDispatch_keepsPool seq entries s
  | fieldFrameComplete p => exact .live (fieldFrameDone_pool s p)
  | identify id => exact .command (fun _ => rfl) s id codeIdentify
  | readStatus id => exact .command (fun _ => rfl) s id codeReadStatus
  | readSlots id => exact .command (fun _ => rfl) s id codeReadSlots
  | getConfig id => exact .command (fun _ => rfl) s id codeGetConfig
  | setConfig id record => exact execSetConfig_keepsPool id record s
  | writeMatch id index record => exact .command (fun _ => by split <;> rfl) s id codeWriteMatch
  | readMatch id index bank => exact .command (fun _ => by split <;> rfl) s id codeReadMatch
  | commitMatch id => exact .command (fun _ => rfl) s id codeCommitMatch
  | writeProfile id profile record => exact execWriteProfile_keepsPool id profile record s
  | readProfile id profile => exact .command (fun _ => by split <;> rfl) s id codeReadProfile
  | writeTemplate id template length bytes => exact execWriteTemplate_keepsPool id template length bytes s
  | readTemplate id template => exact .command (fun _ => by split <;> rfl) s id codeReadTemplate
  | flush id profile => exact execFlush_keepsPool id profile s
  | quiesce id timeout => exact execQuiesce_keepsPool id timeout s
  | resume id => exact execResume_keepsPool id s
  | portControl id port enable bitRate maxLen => exact execPortControl_keepsPool id port enable bitRate maxLen s
  | readPort id port => exact .command (fun _ => by split <;> rfl) s id codeReadPort
  | readCounters id group port first count clear =>
    exact execReadCounters_keepsPool id group port first count clear s
  | resetPart id level => exact execResetPart_keepsPool id level s
  | unknownCommand id code params => exact execUnknownCommand_keepsPool id code params s
  | drainTimerExpiry => exact .live (expireDrain_pool s)
  | resetDeadline => exact .gated (expireReset_poolKept s)
  | powerOn => exact execPowerOn_keepsPool s
  | resetNAsserted => exact execResetNAsserted_keepsPool s
  | pinResetComplete straps => exact execPinResetComplete_keepsPool straps s

/-- So does every step. -/
theorem step_poolKept {s t : State} (h : step s = .next t) : PoolKept s t := by
  unfold step at h
  split at h
  · cases h
    exact .inl (tick_pool s)
  · rename_i c rest _
    exact exec_keepsPool c { s with pending := rest } t h

theorem PoolKept.conserved {s t : State} (kept : PoolKept s t) (h : PoolConserved s) : PoolConserved t := by
  rw [poolConserved_iff_pool] at h ⊢
  exact kept.elim (fun same => same.trans h) id

/-- Settles O9: a step moves blocks between Free List and holders, or frees them all, so each of the 512 stays in one place. -/
theorem stepConservesBlocks : Obligations.StepConservesBlocks := by
  intro s t conserved stepped
  have kept : PoolConserved t := (step_poolKept stepped).conserved conserved
  exact ⟨kept, poolConserved_card kept⟩

end Sys2Proof.Machine
end

section
/-! Proofs: a SYNC with carrier present, taken whole or dropped by the room for its SYNC_ACK (R98, R99, R105). -/

namespace Sys2Proof.Machine

/-- On a working part a SYNC is taken or dropped in any link state (R98). -/
theorem exec_sync_of_working {s : State} (h : s.held = false) : exec .sync s = .next (takeSync s) :=
  live_of_working h takeSync

/-- A SYNC_ACK has a free place exactly when the Control Queue holds 7 frames or fewer (R105). -/
theorem syncAckRoom_iff (s : State) : s.syncAckRoom = true ↔ s.controlQueue.length ≤ 7 :=
  decide_eq_true_iff.trans Nat.lt_succ_iff

/-- What the steps of R98 make of the part before a LINK_RESYNCED is raised: retry counts 0, pointer at the oldest retained bundle, both timers stopped, link UP, and a SYNC_ACK that carries the fields as they were (R98, R99). -/
def synced (s : State) : State :=
  { s with
    retention := s.retention.map fun e => { e with retry := 0 }
    retransmitPtr := s.retention.head?.map Retained.seq
    ackTimer := none
    helloTimer := .stopped
    link := .up
    controlQueue := s.controlQueue ++ [⟨.syncAck s.helloFields s.expectedDispatch, false⟩]
    trunk := { s.trunk with syncsTaken := bump s.trunk.syncsTaken } }

theorem synced_retention_length (s : State) : (synced s).retention.length = s.retention.length :=
  List.length_map _

/-- A SYNC without room for its SYNC_ACK is dropped whole and counted (R98). -/
theorem takeSync_of_full {s : State} (carrier : s.carrier = true) (full : 8 ≤ s.controlQueue.length) :
    takeSync s = { s with trunk := { s.trunk with syncsDropped := bump s.trunk.syncsDropped } } := by
  have noRoom : s.syncAckRoom = false := by
    rw [Bool.eq_false_iff, Ne, syncAckRoom_iff]
    omega
  simp only [takeSync, carrier, noRoom, Bool.not_true, Bool.not_false, Bool.false_eq_true, if_false, if_true]

/-- A SYNC with room for its SYNC_ACK is taken whole, and raises LINK_RESYNCED when it ends a stall (R98). -/
theorem takeSync_of_room {s : State} (carrier : s.carrier = true) (room : s.controlQueue.length ≤ 7) :
    takeSync s =
      if s.link = .stalled then raise (synced s) (.linkResynced s.retention.length) else synced s := by
  have heard : ¬ (!s.carrier) = true := by rw [carrier]; decide
  have free : ¬ (!s.syncAckRoom) = true := by rw [(syncAckRoom_iff s).mpr room]; decide
  rw [takeSync, if_neg heard, if_neg free, ← synced_retention_length s]
  simp only [beq_iff_eq]
  rfl

/-- Settles O43: the room for a SYNC_ACK decides, and a SYNC that is taken leaves the state `synced` names. -/
theorem syncRestartsTheLink : Obligations.SyncRestartsTheLink := by
  intro s working carrier
  rw [exec_sync_of_working working]
  refine ⟨fun room => ?_, fun full => ?_⟩
  · rw [takeSync_of_room carrier room, synced, State.helloFields, State.oldestSeq]
    cases s.retention <;> rfl
  · rw [takeSync_of_full carrier full]

end Sys2Proof.Machine
end

section
/-! Proofs: where a sequence stands in a sound Retention List, and what an acknowledgement of a sequence that is not retained leaves (R107, R113). -/

namespace Sys2Proof.Machine

open Safety

/-- The bundle at position `i` of a sound Retention List has the sequence `i` after the oldest one's (R107). -/
theorem retained_seq_eq {s : State} (sound : RetentionSound s) {i : Nat} {oldest e : Retained}
    (head : s.retention[0]? = some oldest) (at_i : s.retention[i]? = some e) :
    e.seq = oldest.seq + BitVec.ofNat 16 i := by
  obtain ⟨inside, _⟩ := List.getElem?_eq_some_iff.mp at_i
  have count : s.retention.length - 0 = i + (s.retention.length - i) := by omega
  have ends : e.seq + BitVec.ofNat 16 (s.retention.length - i)
      = oldest.seq + BitVec.ofNat 16 i + BitVec.ofNat 16 (s.retention.length - i) := by
    rw [sound.consecutive i e at_i, ← sound.consecutive 0 oldest head, count, BitVec.ofNat_add, BitVec.add_assoc]
  exact add_right_cancel ends

/-- The position found for a sequence in a sound Retention List is that of a bundle with this sequence (R107). -/
theorem retainedIndex_eq_some {s : State} (sound : RetentionSound s) {n : Word16} {i : Nat}
    (found : s.retainedIndex n = some i) : ∃ e, s.retention[i]? = some e ∧ e.seq = n := by
  unfold State.retainedIndex at found
  split at found
  · cases found
  · rename_i oldest rest list
    rw [Option.ite_none_right_eq_some] at found
    obtain ⟨inside, position⟩ := found
    obtain rfl := Option.some.inj position
    have at_i := List.getElem?_eq_getElem inside
    have head : s.retention[0]? = some oldest := by rw [list]; rfl
    refine ⟨_, at_i, ?_⟩
    calc s.retention[(n - oldest.seq).toNat].seq
        = oldest.seq + BitVec.ofNat 16 (n - oldest.seq).toNat := retained_seq_eq sound head at_i
      _ = n := by rw [BitVec.ofNat_toNat, BitVec.setWidth_eq, add_sub_cancel]

/-- A sequence that no retained bundle has stands nowhere in a sound Retention List (R107). -/
theorem retainedIndex_eq_none {s : State} (sound : RetentionSound s) {n : Word16}
    (stray : ∀ e ∈ s.retention, e.seq ≠ n) : s.retainedIndex n = none := by
  rw [Option.eq_none_iff_forall_ne_some]
  intro i found
  obtain ⟨e, at_i, same⟩ := retainedIndex_eq_some sound found
  exact stray e (List.mem_of_getElem? at_i) same

/-- A frame that a part in operation receives passes both gates, the reset hold and the link's (R101, R158). -/
theorem live_received_of_receives {s : State} (h : Receives s) (f : State → State) :
    live s (fun t => received t f) = .next (f s) := by
  have ⟨working, _⟩ := h
  rw [live_of_working working, received_of_receives h]

theorem exec_bundleAck_of_receives {s : State} (h : Receives s) (n : Word16) :
    exec (.bundleAck n) s = .next (takeAck s n) :=
  live_received_of_receives h fun t => takeAck t n

theorem exec_bundleNak_of_receives {s : State} (h : Receives s) (n : Word16) :
    exec (.bundleNak n) s = .next (takeNak s n) :=
  live_received_of_receives h fun t => takeNak t n

/-- An acknowledgement of a sequence found nowhere in the Retention List is a stray (R113). -/
theorem takeAck_of_stray {s : State} {n : Word16} (h : s.retainedIndex n = none) :
    takeAck s n = { s with trunk := { s.trunk with strayAck := bump s.trunk.strayAck } } := by
  rw [takeAck, h]

/-- A negative acknowledgement of a sequence found nowhere in the Retention List is a stray (R113). -/
theorem takeNak_of_stray {s : State} {n : Word16} (h : s.retainedIndex n = none) :
    takeNak s n = { s with trunk := { s.trunk with strayNak := bump s.trunk.strayNak } } := by
  rw [takeNak, h]

/-- Settles O45: a sequence that is not retained has no position in the Retention List, so the frame is only counted. -/
theorem strayAcknowledgementsAreCounted : Obligations.StrayAcknowledgementsAreCounted := by
  intro s n receives sound stray
  have nowhere := retainedIndex_eq_none sound stray
  rw [exec_bundleAck_of_receives receives, exec_bundleNak_of_receives receives,
    takeAck_of_stray nowhere, takeNak_of_stray nowhere]
  exact ⟨rfl, rfl⟩

end Sys2Proof.Machine
end

section
/-! Proofs: what the Event Unit makes of a raised event, by EVENT_MASK and by the room of the Event Queue (R163, R166). -/

namespace Sys2Proof.Machine

/-- One event lost: the lost-event count rises by one, and at 65535 it stays (R166). -/
theorem raiseLost_one (c : Word16) : raiseLost c 1 = if c = 65535 then 65535 else c + 1 := by
  rw [raiseLost]
  by_cases saturated : c = 65535
  · simp [saturated]
  · have room : c.toNat + 1 ≤ 65535 := by bv_omega
    rw [if_pos room, if_neg saturated]
    bv_omega

section Raise

variable {s : State} {e : Event}

/-- An event whose kind EVENT_MASK does not enable is discarded (R163). -/
theorem raise_of_masked (masked : s.config.enables e = false) : raise s e = s := by
  simp [raise, masked]

/-- An enabled event that finds a free place in the Event Queue joins its tail (R163). -/
theorem raise_of_room (enabled : s.config.enables e = true) (room : s.eventQueue.length < Config.eventPlaces) :
    raise s e =
      { s with
        eventQueue := s.eventQueue ++ [⟨e, s.eventNumber, s.partTime⟩], eventNumber := s.eventNumber + 1 } := by
  simp [raise, enabled, room]

/-- An enabled event that finds the Event Queue full is dropped and counted as lost (R163, R166). -/
theorem raise_of_full (enabled : s.config.enables e = true) (full : Config.eventPlaces ≤ s.eventQueue.length) :
    raise s e =
      { s with
        lostEvents := raiseLost s.lostEvents 1
        mgmt := { s.mgmt with eventsLost := bump s.mgmt.eventsLost } } := by
  simp [raise, enabled, full.not_gt]

end Raise

/-- Settles O35: the mask and the room of the Event Queue choose one of the three outcomes. -/
theorem raisedEventIsMaskedQueuedOrLost : Obligations.RaisedEventIsMaskedQueuedOrLost := by
  intro s e
  refine ⟨raise_of_masked, fun enabled room => ?queued, fun enabled full => ?lost⟩
  case queued => exact raise_of_room enabled (Nat.lt_succ_of_le room)
  case lost => rw [raise_of_full enabled full, raiseLost_one]

end Sys2Proof.Machine
end

section
/-! Proofs: what each command can touch. One equation for each command says which fields it may change, unless it resets the part; a law of the part then looks only at the commands that touch its fields. -/

namespace Sys2Proof.Machine

open Safety

/-! ### The fields an operation takes from the state after it -/

/-- `s` with the field ports, their overflow flags and the events taken from `t`. -/
def State.portsOf (s t : State) : State := { s.eventsOf t with ports := t.ports, intakeArmed := t.intakeArmed }

/-- `s` with what closes touch taken from `t`. -/
def State.closesOf (s t : State) : State :=
  { s with
    slots := t.slots, openOrder := t.openOrder, closeExpress := t.closeExpress, closeBulk := t.closeBulk
    causes := t.causes }

/-- `s` with what a stall touches taken from `t`. -/
def State.stallOf (s t : State) : State :=
  { s.eventsOf t with
    link := t.link, retransmitPtr := t.retransmitPtr, ackTimer := t.ackTimer, trunk := t.trunk }

/-- `s` with what a received DISPATCH touches taken from `t`. -/
def State.dispatchOf (s t : State) : State :=
  { s.eventsOf t with
    ports := t.ports, expectedDispatch := t.expectedDispatch, controlQueue := t.controlQueue
    dispatchCounters := t.dispatchCounters, trunk := t.trunk }

/-- `s` with what the discard of CLOSED slots and the end of DRAINING touch taken from `t`. -/
def State.drainOf (s t : State) : State :=
  { s.eventsOf t with
    slots := t.slots, closeExpress := t.closeExpress, closeBulk := t.closeBulk, evictionMark := t.evictionMark
    freeList := t.freeList, poolLowArmed := t.poolLowArmed, poolExhaustedArmed := t.poolExhaustedArmed
    causes := t.causes, opState := t.opState, drainTimer := t.drainTimer, replyCache := t.replyCache
    controlQueue := t.controlQueue }

/-- `s` with what any received request may touch taken from `t`: Reply Cache, Control Queue and two counter groups. -/
def State.requestOf (s t : State) : State :=
  { s with replyCache := t.replyCache, controlQueue := t.controlQueue, mgmt := t.mgmt, trunk := t.trunk }

/-- `s` with what a command that does not reset the part may touch taken from `t`. -/
def reach (c : Instr) (s t : State) : State :=
  match c with
  | .characterArrival _ _ _ => s.portsOf t
  | .byteGapTimerExpiry _ => s.portsOf t
  | .classifierTake =>
    { s.trialOf t with
      ports := t.ports, roundRobin := t.roundRobin, matchHits := t.matchHits, routeMissArmed := t.routeMissArmed }
  | .idleTimeout _ => s.closesOf t
  | .ageTimeout _ => s.closesOf t
  | .slotMove _ => s.moveOf t
  | .startHistoryAgeing => { s with startHistory := t.startHistory }
  | .helloStart => { s with tx := t.tx, helloTimer := t.helloTimer }
  | .helloComplete => { s with tx := t.tx }
  | .controlFrameStart => { s with tx := t.tx, controlQueue := t.controlQueue }
  | .controlFrameComplete => { s with tx := t.tx }
  | .eventFrameStart => { s with tx := t.tx, eventQueue := t.eventQueue, lostEvents := t.lostEvents }
  | .eventFrameComplete => { s with tx := t.tx }
  | .firstTransmissionStart =>
    { s.moveOf t with
      tx := t.tx, retention := t.retention, nextSeq := t.nextSeq, expressRun := t.expressRun
      startHistory := t.startHistory, trunk := t.trunk }
  | .retransmissionStart =>
    { s with
      tx := t.tx, retention := t.retention, ackTimer := t.ackTimer, retransmitPtr := t.retransmitPtr
      startHistory := t.startHistory, trunk := t.trunk }
  | .retryCheckAtLimit => s.stallOf t
  | .bundleTransmissionComplete => { s.removalOf t with tx := t.tx, ackTimer := t.ackTimer }
  | .ackTimerExpiry => s.stallOf t
  | .helloTimerExpiry => { s with helloTimer := t.helloTimer }
  | .carrierLoss =>
    { s.removalOf t with
      carrier := t.carrier, tx := t.tx, ackTimer := t.ackTimer, retransmitPtr := t.retransmitPtr
      controlQueue := t.controlQueue, link := t.link, helloTimer := t.helloTimer, trunk := t.trunk }
  | .carrierGain => { s with carrier := t.carrier, helloTimer := t.helloTimer }
  | .trunkFrameDiscard _ => { s with trunk := t.trunk }
  | .sync =>
    { s.stallOf t with
      retention := t.retention, helloTimer := t.helloTimer, controlQueue := t.controlQueue }
  | .bundleAck _ =>
    { s.removalOf t with retransmitPtr := t.retransmitPtr, ackTimer := t.ackTimer, trunk := t.trunk }
  | .bundleNak _ =>
    { s.removalOf t with retransmitPtr := t.retransmitPtr, ackTimer := t.ackTimer, trunk := t.trunk }
  | .dispatch _ _ => s.dispatchOf t
  | .fieldFrameComplete _ => s.portsOf t
  | .identify _ => s.requestOf t
  | .readStatus _ => s.requestOf t
  | .readSlots _ => s.requestOf t
  | .getConfig _ => s.requestOf t
  | .setConfig _ _ => { s.requestOf t with config := t.config, startHistory := t.startHistory }
  | .writeMatch _ _ _ => { s.requestOf t with shadow := t.shadow }
  | .readMatch _ _ _ => s.requestOf t
  | .commitMatch _ => { s.requestOf t with active := t.active, routeMissArmed := t.routeMissArmed }
  | .writeProfile _ _ _ =>
    { s.trialOf t with
      profiles := t.profiles, replyCache := t.replyCache, controlQueue := t.controlQueue, mgmt := t.mgmt
      trunk := t.trunk }
  | .readProfile _ _ => s.requestOf t
  | .writeTemplate _ _ _ _ => { s.requestOf t with templates := t.templates }
  | .readTemplate _ _ => s.requestOf t
  | .flush _ _ =>
    { s.closesOf t with
      replyCache := t.replyCache, controlQueue := t.controlQueue, mgmt := t.mgmt, trunk := t.trunk }
  | .quiesce _ _ =>
    { s.closesOf t with
      opState := t.opState, drainTimer := t.drainTimer, replyCache := t.replyCache, controlQueue := t.controlQueue
      mgmt := t.mgmt, trunk := t.trunk }
  | .resume _ =>
    { s.trialOf t with
      opState := t.opState, replyCache := t.replyCache, controlQueue := t.controlQueue, mgmt := t.mgmt
      trunk := t.trunk }
  | .portControl _ _ _ _ _ =>
    { s.portsOf t with
      replyCache := t.replyCache, controlQueue := t.controlQueue, mgmt := t.mgmt, trunk := t.trunk }
  | .readPort _ _ => s.requestOf t
  | .readCounters _ _ _ _ _ _ =>
    { s.requestOf t with
      ports := t.ports, intakeArmed := t.intakeArmed, matchHits := t.matchHits, classify := t.classify
      routeMissArmed := t.routeMissArmed, causes := t.causes, minFree := t.minFree
      allocFailures := t.allocFailures, dispatchCounters := t.dispatchCounters }
  | .resetPart _ _ => { s.requestOf t with pendingReset := t.pendingReset }
  | .unknownCommand _ _ _ => s.requestOf t
  | .drainTimerExpiry => s.drainOf t
  | .resetDeadline => s
  | .powerOn => t
  | .resetNAsserted => t
  | .pinResetComplete _ => s

/-- From `s` to `t` only what the command may touch has changed. -/
def Touches (c : Instr) (s t : State) : Prop := t = reach c s t

theorem Touches.refl (c : Instr) (s : State) : Touches c s s := by cases c <;> rfl

theorem Touches.trans {c : Instr} {s t u : State} (h : Touches c s t) (h' : Touches c t u) : Touches c s u :=
  calc u = reach c t u := h'
    _ = reach c (reach c s t) u := congrArg (fun x => reach c x u) h
    _ = reach c s u := by cases c <;> rfl

/-- Only the ports, their overflow flags and the events have changed. -/
def PortReach (s t : State) : Prop := t = s.portsOf t

/-- Only slots, their lists and the CAUSE counters have changed. -/
def CloseReach (s t : State) : Prop := t = s.closesOf t

/-- Only what a stall touches has changed. -/
def StallReach (s t : State) : Prop := t = s.stallOf t

/-- Only what a received DISPATCH touches has changed. -/
def DispatchReach (s t : State) : Prop := t = s.dispatchOf t

/-- Only what the end of DRAINING touches has changed. -/
def DrainReach (s t : State) : Prop := t = s.drainOf t

theorem PortReach.trans {s t u : State} (h : PortReach s t) (h' : PortReach t u) : PortReach s u :=
  calc u = t.portsOf u := h'
    _ = (s.portsOf t).portsOf u := congrArg (fun x => x.portsOf u) h
    _ = s.portsOf u := rfl

theorem CloseReach.trans {s t u : State} (h : CloseReach s t) (h' : CloseReach t u) : CloseReach s u :=
  calc u = t.closesOf u := h'
    _ = (s.closesOf t).closesOf u := congrArg (fun x => x.closesOf u) h
    _ = s.closesOf u := rfl

theorem DispatchReach.trans {s t u : State} (h : DispatchReach s t) (h' : DispatchReach t u) : DispatchReach s u :=
  calc u = t.dispatchOf u := h'
    _ = (s.dispatchOf t).dispatchOf u := congrArg (fun x => x.dispatchOf u) h
    _ = s.dispatchOf u := rfl

theorem DrainReach.trans {s t u : State} (h : DrainReach s t) (h' : DrainReach t u) : DrainReach s u :=
  calc u = t.drainOf u := h'
    _ = (s.drainOf t).drainOf u := congrArg (fun x => x.drainOf u) h
    _ = s.drainOf u := rfl

theorem EventReach.ports {s t : State} (h : EventReach s t) : PortReach s t := by
  unfold PortReach
  rw [h]
  rfl

theorem EventReach.drain {s t : State} (h : EventReach s t) : DrainReach s t := by
  unfold DrainReach
  rw [h]
  rfl

/-! ### Field ports -/

theorem setPort_portReach (s : State) (p : PortNo) (port : Port) : PortReach s (s.setPort p port) := rfl

theorem modPort_portReach (s : State) (p : PortNo) (f : Port → Port) : PortReach s (s.modPort p f) := rfl

theorem reportOverflow_portReach (s : State) (p : PortNo) : PortReach s (reportOverflow s p) := by
  unfold reportOverflow
  split
  · exact PortReach.trans (t := { s with intakeArmed := s.intakeArmed.set p.val false p.isLt }) rfl
      (raise_reach _ _).ports
  · rfl

theorem writeHeader_portReach (s : State) (p : PortNo) (v : Byte) : PortReach s (writeHeader s p v) := by
  unfold writeHeader overflowAtHeader
  split
  · exact (modPort_portReach s p _).trans (reportOverflow_portReach _ p)
  · exact modPort_portReach s p _

theorem takeHeader_portReach (s : State) (p : PortNo) (v : Byte) : PortReach s (takeHeader s p v) := by
  have fails (port : Port) : PortReach s (s.setPort p port) := setPort_portReach s p port
  have passes : PortReach s (writeHeader s p v) := writeHeader_portReach s p v
  unfold takeHeader
  dsimp only
  split
  · split
    exacts [fails _, passes]
  · split
    · split
      exacts [fails _, passes]
    · split
      exacts [fails _, passes]

theorem takePayload_portReach (s : State) (p : PortNo) (v : Byte) : PortReach s (takePayload s p v) := by
  unfold takePayload
  dsimp only
  split
  · exact (setPort_portReach s p _).trans (reportOverflow_portReach _ p)
  · rfl

theorem takeCheck_portReach (s : State) (p : PortNo) (v : Byte) : PortReach s (takeCheck s p v) := by
  unfold takeCheck
  dsimp only
  repeat' split
  all_goals rfl

theorem takeCharacter_portReach (s : State) (p : PortNo) (v : Byte) (framing : Bool) :
    PortReach s (takeCharacter s p v framing) := by
  unfold takeCharacter
  split
  case h_1 => rfl
  case h_2 => split <;> rfl
  case h_3 => split; exacts [rfl, takeHeader_portReach s p v]
  case h_4 => split; exacts [rfl, takePayload_portReach s p v]
  case h_5 => split; exacts [rfl, takeCheck_portReach s p v]
  case h_6 => split <;> rfl

theorem byteGapExpiry_portReach (s : State) (p : PortNo) : PortReach s (byteGapExpiry s p) := by
  unfold byteGapExpiry
  repeat' split
  all_goals rfl

theorem reportUndelivered_reach (s : State) (p : PortNo) (r : PortTxRecord) (reason : UndeliveredReason) :
    EventReach s (reportUndelivered s p r reason) := by
  unfold reportUndelivered
  split
  · exact raise_reach _ _
  · rfl

theorem fieldFrameDone_portReach (s : State) (p : PortNo) : PortReach s (fieldFrameDone s p) := by
  unfold fieldFrameDone
  split
  · rfl
  · dsimp only
    split
    · exact (modPort_portReach s p _).trans ((raise_reach _ _).ports.trans (modPort_portReach _ p _))
    · rfl

theorem abortSending_portReach (s : State) (p : PortNo) : PortReach s (abortSending s p) := by
  unfold abortSending
  split
  · rfl
  · exact (modPort_portReach s p _).trans (reportUndelivered_reach _ p _ _).ports

theorem discardQueued_portReach (s : State) (p : PortNo) (l : List PortTxRecord) :
    PortReach s (discardQueued s p l) := by
  induction l generalizing s with
  | nil => rfl
  | cons r l ih => exact (modPort_portReach s p _).trans ((reportUndelivered_reach _ p r _).ports.trans (ih _))

theorem disablePort_portReach (s : State) (p : PortNo) : PortReach s (disablePort s p) :=
  (modPort_portReach s p _).trans <| (abortSending_portReach _ p).trans <| (modPort_portReach _ p _).trans <|
    discardQueued_portReach _ p _

theorem controlPort_portReach (s : State) (p : PortNo) (enable : Bool) (rate : BitRate) (maxLen : Byte) :
    PortReach s (controlPort s p enable rate maxLen).state := by
  unfold controlPort
  split
  · refine (disablePort_portReach s p).trans ?_
    rfl
  · repeat' split
    all_goals rfl

/-! ### Dispatch Unit -/

theorem EventReach.dispatch {s t : State} (h : EventReach s t) : DispatchReach s t := by
  unfold DispatchReach
  rw [h]
  rfl

theorem admitEntry_reach (s : State) (seq : Word16) (index : Nat) (e : DispatchEntry) :
    DispatchReach s (admitEntry s seq index e) := by
  unfold admitEntry
  dsimp only
  split
  · rfl
  · refine DispatchReach.trans ?_ (reportUndelivered_reach _ _ _ _).dispatch
    rfl
  · refine DispatchReach.trans ?_ (reportUndelivered_reach _ _ _ _).dispatch
    rfl

theorem admitEntries_reach (s : State) (seq : Word16) (index : Nat) (es : List DispatchEntry) :
    DispatchReach s (admitEntries s seq index es) := by
  induction es generalizing s index with
  | nil => rfl
  | cons e es ih => exact (admitEntry_reach s seq index e).trans (ih _ _)

theorem takeExpected_reach (s : State) (seq : Word16) (es : List DispatchEntry) :
    DispatchReach s (takeExpected s seq es) := by
  unfold takeExpected
  split
  · rfl
  · split
    · refine (admitEntries_reach s seq 0 es).trans ?_
      rfl
    · rfl

theorem takeDispatch_reach (s : State) (seq : Word16) (es : List DispatchEntry) :
    DispatchReach s (takeDispatch s seq es) := by
  unfold takeDispatch
  split
  · rfl
  · split
    · rfl
    · rfl
    · exact takeExpected_reach s seq es

/-! ### Closes and the end of DRAINING -/

theorem closeSlot_closeReach (s : State) (n : SlotNo) (cause : CloseCause) : CloseReach s (closeSlot s n cause) := by
  unfold closeSlot
  split
  · rename_i b _ _ _
    dsimp only
    generalize queueClassOf b cause = cls
    cases cls <;> rfl
  · rfl

theorem closeAll_closeReach (s : State) (cause : CloseCause) : CloseReach s (closeAll s cause) := by
  unfold closeAll
  generalize s.openOrder = l
  induction l generalizing s with
  | nil => rfl
  | cons n l ih => exact (closeSlot_closeReach s n cause).trans (ih _)

theorem closeProfile_closeReach (s : State) (p : Fin 32) (cause : CloseCause) :
    CloseReach s (closeProfile s p cause) := by
  unfold closeProfile
  split
  · exact closeSlot_closeReach s _ cause
  · rfl

theorem idleExpiry_closeReach (s : State) (n : SlotNo) : CloseReach s (idleExpiry s n) := by
  unfold idleExpiry
  split
  · split
    · exact closeSlot_closeReach s n _
    · rfl
  · rfl

theorem ageExpiry_closeReach (s : State) (n : SlotNo) : CloseReach s (ageExpiry s n) := by
  unfold ageExpiry
  split
  · split
    · exact closeSlot_closeReach s n _
    · rfl
  · rfl

theorem rearmPool_drainReach (s : State) : DrainReach s (rearmPool s) := by
  unfold rearmPool
  split <;> rfl

/-- Outside RUN a return of blocks tries no record (R59). -/
theorem giveBack_of_not_run {s : State} (h : s.opState ≠ .run) (chain : List BlockNo) :
    giveBack s chain = returnChain s chain :=
  tryHeld_of_not_run (by rw [(returnChain_reach s chain).opState]; exact h)

theorem giveBack_drainReach {s : State} (h : s.opState ≠ .run) (chain : List BlockNo) :
    DrainReach s (giveBack s chain) := by
  rw [giveBack_of_not_run h]
  exact DrainReach.trans (t := { s with freeList := s.freeList ++ chain }) rfl (rearmPool_drainReach _)

theorem discardSlot_drainReach {s : State} (h : s.opState ≠ .run) (n : SlotNo) : DrainReach s (discardSlot s n) := by
  unfold discardSlot
  split
  · rename_i b _ cls _
    refine (giveBack_drainReach h b.chain).trans ?_
    generalize giveBack s b.chain = u
    cases cls <;> rfl
  · rfl

theorem discardClosed_drainReach {s : State} (h : s.opState ≠ .run) : DrainReach s (discardClosed s) := by
  unfold discardClosed
  generalize s.closeExpress ++ s.closeBulk = l
  induction l generalizing s with
  | nil => rfl
  | cons n l ih =>
    refine (discardSlot_drainReach h n).trans (ih ?_)
    rw [discardSlot_opState h]
    exact h

theorem endDrain_drainReach (s : State) (status : Status) (result : List Byte) :
    DrainReach s (endDrain s status result) := by
  unfold endDrain
  dsimp only
  repeat' split
  all_goals rfl

theorem expireDrain_drainReach (s : State) : DrainReach s (expireDrain s) := by
  unfold expireDrain
  split
  · rename_i draining _
    split
    · have busy : s.opState ≠ .run := by rw [draining]; decide
      exact (discardClosed_drainReach busy).trans ((raise_reach _ _).drain.trans (endDrain_drainReach _ _ _))
    · rfl
  · rfl

end Sys2Proof.Machine
end

section
/-! Proofs: every command that does not reset the part touches only what its reach names, and a command that resets it leaves one of the reset states of section 8.6. -/

namespace Sys2Proof.Machine

open Safety

/-! ### Reaches of shared operations as reaches of commands -/

section Touch

variable {c : Instr} {s t u : State}

/-- An operation whose reach `R` lies within the command's. -/
theorem Touches.of_reach {R : State → State → State} (h : t = R s t) (within : ∀ x, R s x = reach c s (R s x)) :
    Touches c s t := by
  unfold Touches
  rw [h]
  exact within t

/-- The gate `live` (R158). -/
theorem Touches.live {f : State → State} (answer : live s f = .next t) (h : Touches c s (f s)) : Touches c s t := by
  obtain ⟨u, next, rfl | rfl⟩ := live_next s f
  · cases next.symm.trans answer
    exact .refl c _
  · cases next.symm.trans answer
    exact h

/-- The gate `received`: a frame taken, counted in OFFLINE or passed by. -/
theorem Touches.received {f : State → State} (counts : ∀ trunk, Touches c s { s with trunk := trunk })
    (h : Touches c s (f s)) : Touches c s (received s f) := by
  obtain passes | taken | counted := received_cases s f
  · rw [passes]; exact .refl c s
  · rw [taken]; exact h
  · rw [counted]; exact counts _

theorem countBadLength_touches (counts : ∀ trunk, Touches c s { s with trunk := trunk }) :
    Touches c s (countBadLength s) := by
  unfold countBadLength
  split
  · exact .refl c s
  · exact counts _

/-- A request touches Reply Cache, Control Queue and MGMT counters beside what its command does (R136). -/
theorem takeRequest_touches {run : State → Execution} (answers : ∀ u v, Touches c u (u.requestOf v))
    (runs : ∀ u, Touches c u (run u).state) (s : State) (id : Word16) (code : Byte) :
    Touches c s (takeRequest s id code run) := by
  unfold takeRequest
  split
  · exact answers s { s with mgmt := { s.mgmt with dropped := bump s.mgmt.dropped } }
  · split
    · rename_i e _
      dsimp only
      split
      · rename_i r _
        exact answers s (State.placeControl { s with mgmt := { s.mgmt with replays := bump s.mgmt.replays } }
          ⟨.mgmtReply r, false⟩)
      · exact answers s { s with mgmt := { s.mgmt with replays := bump s.mgmt.replays } }
    · dsimp only
      refine (answers s (accepted s)).trans ((runs (accepted s)).trans ?_)
      split
      · rename_i r _
        exact answers _ (State.placeControl { (run (accepted s)).state with
          replyCache := (run (accepted s)).state.replyCache ++ [_] } ⟨.mgmtReply r, (run (accepted s)).awaited⟩)
      · exact answers _ { (run (accepted s)).state with
          replyCache := (run (accepted s)).state.replyCache ++ [_] }

/-- A management command. -/
theorem Touches.command {run : State → Execution} {id : Word16} {code : Byte}
    (answer : command s id code run = .next t) (answers : ∀ u v, Touches c u (u.requestOf v))
    (runs : ∀ u, Touches c u (run u).state) : Touches c s t :=
  .live answer
    (.received (fun trunk => answers s { s with trunk := trunk }) (takeRequest_touches answers runs s id code))

end Touch

/-! ### The commands of the Classifier, the Slot Table and the trunk -/

theorem handOver_reach (s : State) (p : Fin 32) (r : TakenRecord) : TrialReach s (handOver s p r) := by
  have placed := (place_reach s p r).trial
  unfold handOver
  split
  · rename_i h
    rw [h] at placed
    exact placed.trans rfl
  · rename_i h
    rw [h] at placed
    exact placed

theorem reportMiss_touches (s : State) (r : TakenRecord) : Touches .classifierTake s (reportMiss s r) := by
  unfold reportMiss
  split
  · refine Touches.trans (t := { s with routeMissArmed := false }) rfl ?_
    exact .of_reach (R := State.eventsOf) (raise_reach _ _) fun _ => rfl
  · rfl

theorem handOver_touches (s : State) (p : Fin 32) (r : TakenRecord) :
    Touches .classifierTake s (handOver s p r) :=
  .of_reach (R := State.trialOf) (handOver_reach s p r) fun _ => rfl

theorem classified_touches (s : State) (r : TakenRecord) : Touches .classifierTake s (classified s r) := by
  unfold classified handleHit handleMiss
  split
  · dsimp only
    split
    · rfl
    · refine Touches.trans ?_ (handOver_touches _ _ r)
      rfl
  · dsimp only
    split
    · refine (reportMiss_touches s r).trans ?_
      rfl
    · exact (reportMiss_touches s r).trans (handOver_touches _ _ r)

theorem classifierTake_touches (s : State) : Touches .classifierTake s (classifierTake s) := by
  cases next : s.nextTake with
  | none =>
    unfold classifierTake
    rw [next]
    rfl
  | some taken =>
    obtain ⟨p, r, rest⟩ := taken
    rw [classifierTake_of_next next]
    refine Touches.trans ?_ (classified_touches (afterTake s p rest) ⟨p, r⟩)
    rfl

theorem startNewBundle_touches (s : State) (cls : BundleClass) :
    Touches .firstTransmissionStart s (startNewBundle s cls) := by
  unfold startNewBundle
  split
  · rfl
  · dsimp only
    refine Touches.trans ?_ (.of_reach (R := State.moveOf) (moveHead_reach _ _) fun _ => rfl)
    cases cls <;> rfl

theorem startFirst_touches (s : State) : Touches .firstTransmissionStart s (startFirst s) := by
  unfold startFirst
  split
  · split
    · rfl
    · exact startNewBundle_touches s _
  · rfl

theorem startRetransmission_touches (s : State) : Touches .retransmissionStart s (startRetransmission s) := by
  unfold startRetransmission
  repeat' split
  all_goals rfl

theorem StallReach.trans {s t u : State} (h : StallReach s t) (h' : StallReach t u) : StallReach s u :=
  calc u = t.stallOf u := h'
    _ = (s.stallOf t).stallOf u := congrArg (fun x => x.stallOf u) h
    _ = s.stallOf u := rfl

theorem EventReach.stall {s t : State} (h : EventReach s t) : StallReach s t := by
  unfold StallReach
  rw [h]
  rfl

theorem stall_reach (s : State) : StallReach s (stall s) := by
  unfold stall
  dsimp only
  split
  · rfl
  · refine StallReach.trans ?_ (raise_reach _ _).stall
    rfl

theorem retryCheck_reach (s : State) : StallReach s (retryCheck s) := by
  unfold retryCheck
  split
  · rfl
  · split
    · exact stall_reach s
    · rfl

theorem expireAck_reach (s : State) : StallReach s (expireAck s) := by
  unfold expireAck
  split
  · split
    · split
      · exact stall_reach s
      · rfl
    · rfl
  · rfl

theorem returnHold_touches (c : Instr) (within : ∀ s t, Touches c s (s.removalOf t)) (s : State) :
    Touches c s (returnHold s) := by
  unfold Touches
  rw [returnHold_reach s]
  exact within s (returnHold s)

theorem completeBundle_touches (s : State) : Touches .bundleTransmissionComplete s (completeBundle s) := by
  unfold completeBundle
  split
  · split
    · refine Touches.trans (t := { s with tx := none }) rfl (returnHold_touches .bundleTransmissionComplete (fun _ _ => rfl) _)
    · rfl
  · rfl

theorem abortTransmission_touches (s : State) : Touches .carrierLoss s (abortTransmission s) := by
  unfold abortTransmission
  split
  · rfl
  · rfl
  · rfl
  · rfl
  · exact Touches.trans (t := { s with tx := none }) rfl (returnHold_touches .carrierLoss (fun _ _ => rfl) _)

theorem linkDown_touches (s : State) : Touches .carrierLoss s (linkDown s) :=
  (abortTransmission_touches s).trans rfl

theorem removeOldest_touches (c : Instr) (within : ∀ s t, Touches c s (s.removalOf t)) (k : Nat) (s : State) :
    Touches c s (removeOldest k s) := by
  unfold Touches
  rw [removeOldest_reach k s]
  exact within s (removeOldest k s)

theorem takeAck_touches (s : State) (n : Word16) : Touches (.bundleAck n) s (takeAck s n) := by
  unfold takeAck
  split
  · rfl
  · exact (removeOldest_touches (.bundleAck n) (fun _ _ => rfl) _ s).trans rfl

theorem takeNak_touches (s : State) (n : Word16) : Touches (.bundleNak n) s (takeNak s n) := by
  unfold takeNak
  split
  · rfl
  · exact (removeOldest_touches (.bundleNak n) (fun _ _ => rfl) _ s).trans rfl

theorem takeSync_touches (s : State) : Touches .sync s (takeSync s) := by
  unfold takeSync
  split
  · rfl
  · split
    · rfl
    · dsimp only
      split
      · refine Touches.trans ?_ (.of_reach (R := State.eventsOf) (raise_reach _ _) fun _ => rfl)
        rfl
      · rfl

/-! ### Management commands -/

theorem tryHeldFor_reach (s : State) (p : Fin 32) : TrialReach s (tryHeldFor s p) := by
  unfold tryHeldFor
  split
  · split
    · exact tryHeld_reach s
    · rfl
  · rfl

theorem writeProfile_touches (id : Word16) (profile : Byte) (record : ProfileRecord) (s : State) (p q : Fin 32)
    (cause : CloseCause) :
    Touches (.writeProfile id profile record) s (tryHeldFor (closeProfile s p cause) q) :=
  .trans (.of_reach (R := State.closesOf) (closeProfile_closeReach s p cause) fun _ => rfl)
    (.of_reach (R := State.trialOf) (tryHeldFor_reach _ q) fun _ => rfl)

theorem quiesceRun_touches (id timeout timeout' : Word16) (s : State) :
    Touches (.quiesce id timeout) s (quiesceRun s timeout').state := by
  unfold quiesceRun
  split
  · rfl
  · refine Touches.trans (t := { s with opState := .draining }) rfl ?_
    refine Touches.trans (.of_reach (R := State.closesOf) (closeAll_closeReach _ .quiesce) fun _ => rfl) ?_
    rfl

theorem controlEnded_of_no_reset {s : State} {e : ControlEntry} (h : (e.awaited && s.pendingReset.isSome) = false) :
    controlEnded s e = s := by
  unfold controlEnded
  split
  · rename_i awaited
    cases none : s.pendingReset with
    | none => rfl
    | some p => rw [awaited, none] at h; cases h
  · rfl

theorem State.awaitedStarted_of_control {s : State} {e : ControlEntry} (h : s.tx = some (.control e)) :
    s.awaitedStarted = e.awaited := by
  unfold State.awaitedStarted
  rw [h]

theorem linkDown_of_control {s : State} {e : ControlEntry} (h : s.tx = some (.control e)) :
    (linkDown s).pendingReset = s.pendingReset := by
  simp [linkDown, abortTransmission, h]

theorem completeControl_touches {s : State} (h : (s.awaitedStarted && s.pendingReset.isSome) = false) :
    Touches .controlFrameComplete s (completeControl s) := by
  unfold completeControl
  split
  · rename_i e sending
    rw [State.awaitedStarted_of_control sending] at h
    rw [controlEnded_of_no_reset (s := { s with tx := none }) h]
    rfl
  · rfl

theorem loseCarrier_touches {s : State} (h : (s.awaitedStarted && s.pendingReset.isSome) = false) :
    Touches .carrierLoss s (loseCarrier s) := by
  unfold loseCarrier
  split
  · rename_i e sending
    rw [State.awaitedStarted_of_control sending] at h
    rw [controlEnded_of_no_reset (by rwa [linkDown_of_control sending])]
    exact linkDown_touches s
  · exact linkDown_touches s

theorem expireReset_of_no_reset {s : State}
    (h : (!s.awaitedStarted && s.pendingReset.any fun p => reached s.partTime p.deadline) = false) :
    expireReset s = s := by
  unfold expireReset
  split
  · rename_i p pending
    rw [if_neg]
    rintro ⟨due, waiting⟩
    simp [pending, due, waiting] at h
  · rfl

/-! ### Every command -/

section Commands

variable {s t : State}

theorem execCarrierLoss_touches (noReset : performsReset .carrierLoss s = false)
    (answer : execCarrierLoss s = .next t) : Touches .carrierLoss s t := by
  unfold execCarrierLoss at answer
  split at answer
  · cases answer; rfl
  · rename_i carrier
    split at answer
    · cases answer; rfl
    · rename_i working
      cases answer
      refine loseCarrier_touches ?_
      have carrier : s.carrier = true := by simpa using carrier
      simpa [performsReset, carrier, working] using noReset

theorem execCarrierGain_touches (answer : execCarrierGain s = .next t) : Touches .carrierGain s t := by
  unfold execCarrierGain at answer
  repeat' split at answer
  all_goals cases answer; rfl

theorem execSetConfig_touches (id : Word16) (record : ConfigRecord) (answer : execSetConfig id record s = .next t) :
    Touches (.setConfig id record) s t := by
  refine .command answer (fun _ _ => rfl) (fun u => ?_)
  repeat' split
  all_goals rfl

theorem execWriteMatch_touches (id : Word16) (index : Byte) (record : MatchRecord)
    (answer : execWriteMatch id index record s = .next t) : Touches (.writeMatch id index record) s t := by
  refine .command answer (fun _ _ => rfl) (fun u => ?_)
  split <;> rfl

theorem execReadMatch_touches (id : Word16) (index bank : Byte) (answer : execReadMatch id index bank s = .next t) :
    Touches (.readMatch id index bank) s t := by
  refine .command answer (fun _ _ => rfl) (fun u => ?_)
  split <;> rfl

theorem execWriteProfile_touches (id : Word16) (profile : Byte) (record : ProfileRecord)
    (answer : execWriteProfile id profile record s = .next t) : Touches (.writeProfile id profile record) s t := by
  refine .command answer (fun _ _ => rfl) (fun u => ?_)
  split
  · refine Touches.trans ?_ (writeProfile_touches id profile record _ _ _ _)
    rfl
  · rfl

theorem execReadProfile_touches (id : Word16) (profile : Byte) (answer : execReadProfile id profile s = .next t) :
    Touches (.readProfile id profile) s t := by
  refine .command answer (fun _ _ => rfl) (fun u => ?_)
  split <;> rfl

theorem execWriteTemplate_touches (id : Word16) (template length : Byte) (bytes : List Byte)
    (answer : execWriteTemplate id template length bytes s = .next t) :
    Touches (.writeTemplate id template length bytes) s t := by
  unfold execWriteTemplate at answer
  split at answer
  · refine Touches.command (c := .writeTemplate id template length bytes) answer (fun _ _ => rfl) (fun u => ?_)
    split <;> rfl
  · exact .live answer (countBadLength_touches fun _ => rfl)

theorem execReadTemplate_touches (id : Word16) (template : Byte) (answer : execReadTemplate id template s = .next t) :
    Touches (.readTemplate id template) s t := by
  refine .command answer (fun _ _ => rfl) (fun u => ?_)
  split <;> rfl

theorem execFlush_touches (id : Word16) (profile : Byte) (answer : execFlush id profile s = .next t) :
    Touches (.flush id profile) s t := by
  refine .command answer (fun _ _ => rfl) (fun u => ?_)
  split
  · exact .of_reach (R := State.closesOf) (closeAll_closeReach u .flush) fun _ => rfl
  · split
    · exact .of_reach (R := State.closesOf) (closeProfile_closeReach u _ .flush) fun _ => rfl
    · rfl

theorem execQuiesce_touches (id timeout : Word16) (answer : execQuiesce id timeout s = .next t) :
    Touches (.quiesce id timeout) s t := by
  refine .command answer (fun _ _ => rfl) (fun u => ?_)
  split
  · rfl
  · split
    · exact quiesceRun_touches id timeout timeout u
    · rfl
    · rfl

theorem execResume_touches (id : Word16) (answer : execResume id s = .next t) : Touches (.resume id) s t := by
  refine .command answer (fun _ _ => rfl) (fun u => ?_)
  split
  · refine Touches.trans (t := { u with opState := .run }) rfl ?_
    exact .of_reach (R := State.trialOf) (tryHeld_reach _) fun _ => rfl
  · rfl
  · rfl

theorem execPortControl_touches (id : Word16) (port enable bitRate maxLen : Byte)
    (answer : execPortControl id port enable bitRate maxLen s = .next t) :
    Touches (.portControl id port enable bitRate maxLen) s t := by
  refine .command answer (fun _ _ => rfl) (fun u => ?_)
  split
  · rfl
  · split
    · exact .of_reach (R := State.portsOf) (controlPort_portReach u _ _ _ _) fun _ => rfl
    · rfl

theorem execReadPort_touches (id : Word16) (port : Byte) (answer : execReadPort id port s = .next t) :
    Touches (.readPort id port) s t := by
  refine .command answer (fun _ _ => rfl) (fun u => ?_)
  split <;> rfl

theorem clearGroup_touches (id : Word16) (group port first count clear : Byte) (u : State) (g : CounterGroup) :
    Touches (.readCounters id group port first count clear) u (clearGroup u g) := by
  cases g <;> rfl

theorem execReadCounters_touches (id : Word16) (group port first count clear : Byte)
    (answer : execReadCounters id group port first count clear s = .next t) :
    Touches (.readCounters id group port first count clear) s t := by
  refine .command answer (fun _ _ => rfl) (fun u => ?_)
  split
  · rfl
  · rename_i g _
    dsimp only
    split
    · change Touches _ u (if clear = 1 then clearGroup u g else u)
      split
      · exact clearGroup_touches id group port first count clear u g
      · rfl
    · rfl

theorem execResetPart_touches (id : Word16) (level : Byte) (answer : execResetPart id level s = .next t) :
    Touches (.resetPart id level) s t := by
  refine .command answer (fun _ _ => rfl) (fun u => ?_)
  repeat' split
  all_goals rfl

theorem execUnknownCommand_touches (id : Word16) (code : Byte) (params : List Byte)
    (answer : execUnknownCommand id code params s = .next t) : Touches (.unknownCommand id code params) s t := by
  unfold execUnknownCommand at answer
  split at answer
  · exact .live answer (countBadLength_touches fun _ => rfl)
  · split at answer
    · exact .command answer (fun _ _ => rfl) fun _ => rfl
    · cases answer; rfl

theorem execPinResetComplete_touches (straps : BitVec 4) (noReset : s.held = false)
    (answer : execPinResetComplete straps s = .next t) : Touches (.pinResetComplete straps) s t := by
  unfold execPinResetComplete at answer
  rw [if_neg (Bool.eq_false_iff.mp noReset)] at answer
  cases answer
  rfl

theorem execDispatch_touches (seq : Word16) (entries : List DispatchEntry)
    (answer : execDispatch seq entries s = .next t) : Touches (.dispatch seq entries) s t := by
  refine .live answer ?_
  split
  · exact .received (fun _ => rfl) (takeDispatch_reach s seq entries)
  · exact countBadLength_touches fun _ => rfl

theorem execResetDeadline_touches (noReset : performsReset .resetDeadline s = false)
    (answer : execResetDeadline s = .next t) : Touches .resetDeadline s t := by
  unfold execResetDeadline live at answer
  split at answer
  · cases answer; rfl
  · rename_i working
    cases answer
    refine expireReset_of_no_reset ?_
    simpa [performsReset, working] using noReset

theorem execControlFrameComplete_touches (noReset : performsReset .controlFrameComplete s = false)
    (answer : execControlFrameComplete s = .next t) : Touches .controlFrameComplete s t := by
  unfold execControlFrameComplete live at answer
  split at answer
  · cases answer; rfl
  · rename_i working
    cases answer
    refine completeControl_touches ?_
    simpa [performsReset, working] using noReset

end Commands

/-- A command that does not reset the part changes only what its reach names. -/
theorem exec_touches {c : Instr} {s t : State} (answer : exec c s = .next t) (noReset : performsReset c s = false) :
    Touches c s t := by
  cases c with
  | characterArrival p v framing => exact .live (f := (takeCharacter · p v framing)) answer (takeCharacter_portReach s p v framing)
  | byteGapTimerExpiry p => exact .live (f := (byteGapExpiry · p)) answer (byteGapExpiry_portReach s p)
  | classifierTake => exact .live answer (classifierTake_touches s)
  | idleTimeout n => exact .live (f := (idleExpiry · n)) answer (idleExpiry_closeReach s n)
  | ageTimeout n => exact .live (f := (ageExpiry · n)) answer (ageExpiry_closeReach s n)
  | slotMove cls => exact .live (f := (moveHead · cls)) answer (moveHead_reach s cls)
  | startHistoryAgeing => exact .live answer (by unfold ageHistory; (repeat' split) <;> rfl)
  | helloStart => exact .live answer (by unfold startHello; split <;> rfl)
  | helloComplete => exact .live answer (by unfold completeHello; split <;> rfl)
  | controlFrameStart => exact .live answer (by unfold startControl; (repeat' split) <;> rfl)
  | controlFrameComplete => exact execControlFrameComplete_touches noReset answer
  | eventFrameStart => exact .live answer (by unfold startEvent; (repeat' split) <;> rfl)
  | eventFrameComplete => exact .live answer (by unfold completeEvent; split <;> rfl)
  | firstTransmissionStart => exact .live answer (startFirst_touches s)
  | retransmissionStart => exact .live answer (startRetransmission_touches s)
  | retryCheckAtLimit => exact .live answer (retryCheck_reach s)
  | bundleTransmissionComplete => exact .live answer (completeBundle_touches s)
  | ackTimerExpiry => exact .live answer (expireAck_reach s)
  | helloTimerExpiry => exact .live answer (by unfold expireHello; (repeat' split) <;> rfl)
  | carrierLoss => exact execCarrierLoss_touches noReset answer
  | carrierGain => exact execCarrierGain_touches answer
  | trunkFrameDiscard frame => exact .live (f := (discardFrame · frame)) answer (by unfold discardFrame; (repeat' split) <;> rfl)
  | sync => exact .live answer (takeSync_touches s)
  | bundleAck seq => exact .live (f := (received · (takeAck · seq))) answer (.received (fun _ => rfl) (takeAck_touches s seq))
  | bundleNak seq => exact .live (f := (received · (takeNak · seq))) answer (.received (fun _ => rfl) (takeNak_touches s seq))
  | dispatch seq entries => exact execDispatch_touches seq entries answer
  | fieldFrameComplete p => exact .live (f := (fieldFrameDone · p)) answer (fieldFrameDone_portReach s p)
  | identify id => exact .command answer (fun _ _ => rfl) fun _ => rfl
  | readStatus id => exact .command answer (fun _ _ => rfl) fun _ => rfl
  | readSlots id => exact .command answer (fun _ _ => rfl) fun _ => rfl
  | getConfig id => exact .command answer (fun _ _ => rfl) fun _ => rfl
  | setConfig id record => exact execSetConfig_touches id record answer
  | writeMatch id index record => exact execWriteMatch_touches id index record answer
  | readMatch id index bank => exact execReadMatch_touches id index bank answer
  | commitMatch id => exact .command answer (fun _ _ => rfl) fun _ => rfl
  | writeProfile id profile record => exact execWriteProfile_touches id profile record answer
  | readProfile id profile => exact execReadProfile_touches id profile answer
  | writeTemplate id template length bytes => exact execWriteTemplate_touches id template length bytes answer
  | readTemplate id template => exact execReadTemplate_touches id template answer
  | flush id profile => exact execFlush_touches id profile answer
  | quiesce id timeout => exact execQuiesce_touches id timeout answer
  | resume id => exact execResume_touches id answer
  | portControl id port enable bitRate maxLen => exact execPortControl_touches id port enable bitRate maxLen answer
  | readPort id port => exact execReadPort_touches id port answer
  | readCounters id group port first count clear =>
    exact execReadCounters_touches id group port first count clear answer
  | resetPart id level => exact execResetPart_touches id level answer
  | unknownCommand id code params => exact execUnknownCommand_touches id code params answer
  | drainTimerExpiry => exact .live answer (expireDrain_drainReach s)
  | resetDeadline => exact execResetDeadline_touches noReset answer
  | powerOn => cases noReset
  | resetNAsserted => cases noReset
  | pinResetComplete straps => exact execPinResetComplete_touches straps noReset answer

end Sys2Proof.Machine
end

section
/-! Proofs: the resets (section 8.6): what each pin, a reset deadline and the end of an awaited reply leave (R157, R158). -/

namespace Sys2Proof.Machine

open Safety

/-! ### The values a reset leaves -/

/-- A TRAFFIC reset takes the ports one by one (R21, R135). -/
theorem map_trafficReset (ports : Vector Port 4) :
    #v[ports[0].trafficReset, ports[1].trafficReset, ports[2].trafficReset, ports[3].trafficReset]
      = ports.map Port.trafficReset := by
  ext i hi
  obtain rfl | rfl | rfl | rfl : i = 0 ∨ i = 1 ∨ i = 2 ∨ i = 3 := by omega
  all_goals simp

/-- In a working part no line holds it. -/
theorem held_eq_false_iff (s : State) : s.held = false ↔ s.resetNLow = false ∧ s.supplyGood = true := by
  simp [State.held]

/-- What every reset begins with: the pin reset values, the lines and the cause as they stand, a HELLO due with carrier. -/
theorem resetValues_eq (s : State) :
    resetValues s =
      { pinValues s with
        supplyGood := s.supplyGood, resetNLow := s.resetNLow, resetCause := s.resetCause
        helloTimer := if s.carrier then .due else .stopped } := by
  simp only [resetValues, pinValues, State.reset]

/-- In a working part the lines stand as the pin reset values have them. -/
theorem resetValues_of_working {s : State} (working : s.held = false) :
    resetValues s =
      { pinValues s with
        resetCause := s.resetCause, helloTimer := if s.carrier then .due else .stopped } := by
  obtain ⟨resetN, supply⟩ := (held_eq_false_iff s).mp working
  rw [resetValues_eq, resetN, supply]
  simp only [pinValues, State.reset]

/-- What a working part performs is what the claims call an ordered reset. -/
theorem performReset_eq {s : State} (working : s.held = false) (level : ResetLevel) :
    performReset s level = orderedReset s level := by
  cases level with
  | full => rw [performReset, resetValues_of_working working, orderedReset]
  | traffic =>
    simp only [performReset, map_trafficReset, resetValues_of_working working, orderedReset]
    rfl

/-- The part held in reset (R158). -/
theorem heldValues_eq (s : State) :
    heldValues s =
      { pinValues s with supplyGood := s.supplyGood, resetNLow := s.resetNLow, resetCause := s.resetCause } := rfl

theorem execPowerOn_eq (s : State) :
    execPowerOn s = .next { pinValues s with supplyGood := false, resetNLow := s.resetNLow, resetCause := .power } := by
  rw [execPowerOn, heldValues_eq]

theorem execResetNAsserted_eq (s : State) :
    execResetNAsserted s =
      .next
        { pinValues s with
          supplyGood := s.supplyGood, resetNLow := true, resetCause := if s.supplyGood then .pin else .power } := by
  rw [execResetNAsserted, heldValues_eq]

/-- A pin reset that completes leaves the pin reset values, with the straps sampled and a HELLO due if carrier is present. -/
theorem execPinResetComplete_of_held {s : State} (held : s.held = true) (straps : BitVec 4) :
    execPinResetComplete straps s =
      .next
        { pinValues s with
          straps := straps, unitNumber := straps, resetCause := s.resetCause
          helloTimer := if s.carrier then .due else .stopped } := by
  rw [execPinResetComplete, if_pos held, resetValues_eq]
  simp only [pinValues, State.reset]

/-- Settles O5: each of the three pins leaves the pin reset values, with its own cause and lines. -/
theorem pinResetRestoresEveryBlock : Obligations.PinResetRestoresEveryBlock := fun s straps =>
  ⟨execPowerOn_eq s, execResetNAsserted_eq s, fun held => execPinResetComplete_of_held held straps,
    fun working => congrArg Host.Outcome.next (if_neg (Bool.eq_false_iff.mp working))⟩

/-! ### A pending reset -/

section Pending

variable {s : State} {p : PendingReset}

theorem exec_resetDeadline_of_working (working : s.held = false) :
    exec .resetDeadline s = .next (expireReset s) := live_of_working working expireReset

theorem exec_controlFrameComplete_of_working (working : s.held = false) :
    exec .controlFrameComplete s = .next (completeControl s) := live_of_working working completeControl

theorem exec_carrierLoss_of_working (working : s.held = false) (carrier : s.carrier = true) :
    exec .carrierLoss s = .next (loseCarrier s) := by
  have answer : exec .carrierLoss s
      = .next (if !s.carrier then s else if s.held then { s with carrier := false } else loseCarrier s) := rfl
  rw [answer, carrier, working]
  rfl

theorem expireReset_of_due (pending : s.pendingReset = some p) (waiting : s.awaitedStarted = false)
    (due : reached s.partTime p.deadline = true) : expireReset s = performReset s p.level := by
  simp [expireReset, pending, waiting, due]

theorem expireReset_of_not_due (pending : s.pendingReset = some p)
    (void : s.awaitedStarted = true ∨ reached s.partTime p.deadline = false) : expireReset s = s := by
  refine expireReset_of_no_reset ?_
  obtain started | early := void
  · simp [started]
  · simp [pending, early]

theorem controlEnded_of_awaited {e : ControlEntry} (pending : s.pendingReset = some p) (awaited : e.awaited = true) :
    controlEnded s e = performReset s p.level := by
  simp [controlEnded, awaited, pending]

/-- A reset reads nothing that the end of a transmission changes. -/
theorem performReset_tx (s : State) (level : ResetLevel) :
    performReset { s with tx := none } level = performReset s level := by
  cases level <;> rfl

theorem completeControl_of_awaited {e : ControlEntry} (pending : s.pendingReset = some p)
    (sending : s.tx = some (.control e)) (awaited : e.awaited = true) :
    completeControl s = performReset s p.level := by
  unfold completeControl
  rw [sending]
  dsimp only
  rw [controlEnded_of_awaited (s := { s with tx := none }) pending awaited]
  exact performReset_tx s p.level

/-- The steps of R96 when no bundle is being transmitted. -/
theorem performReset_linkDown {e : ControlEntry} (sending : s.tx = some (.control e)) (level : ResetLevel) :
    performReset (linkDown s) level = performReset { s with carrier := false } level := by
  cases level <;> simp only [linkDown, abortTransmission, sending] <;> rfl

theorem loseCarrier_of_awaited {e : ControlEntry} (pending : s.pendingReset = some p)
    (sending : s.tx = some (.control e)) (awaited : e.awaited = true) :
    loseCarrier s = performReset { s with carrier := false } p.level := by
  unfold loseCarrier
  rw [sending]
  dsimp only
  rw [controlEnded_of_awaited ((linkDown_of_control sending).trans pending) awaited, performReset_linkDown sending]
  rfl

end Pending

/-- Settles O6: the reset deadline, the completion of the awaited reply and its abort each perform the whole reset. -/
theorem pendingResetIsPerformed : Obligations.PendingResetIsPerformed := by
  intro s p working pending
  refine ⟨fun waiting due => ?deadline, fun void => ?void, fun e sending awaited => ⟨?completed, fun carrier => ?aborted⟩⟩
  case deadline =>
    rw [exec_resetDeadline_of_working working, expireReset_of_due pending waiting due, performReset_eq working]
  case void => rw [exec_resetDeadline_of_working working, expireReset_of_not_due pending void]
  case completed =>
    rw [exec_controlFrameComplete_of_working working, completeControl_of_awaited pending sending awaited,
      performReset_eq working]
  case aborted =>
    rw [exec_carrierLoss_of_working working carrier, loseCarrier_of_awaited pending sending awaited]
    exact congrArg Host.Outcome.next (performReset_eq (s := { s with carrier := false }) working p.level)

/-! ### What a command that resets the part leaves -/

/-- The states a reset of `s` leaves: an ordered reset of a working part, with the carrier as it then is; the part held by its pins; the part released from them. -/
inductive ResetOf (s : State) : State → Prop
  | ordered (working : s.held = false) (carrier : Bool) (level : ResetLevel) :
      ResetOf s (performReset { s with carrier := carrier } level)
  | held (supplyGood resetNLow : Bool) (cause : ResetCause) (low : (resetNLow || !supplyGood) = true) :
      ResetOf s { heldValues s with supplyGood := supplyGood, resetNLow := resetNLow, resetCause := cause }
  | released (straps : BitVec 4) :
      ResetOf s (resetValues { s with straps := straps, supplyGood := true, resetNLow := false })

/-- The transmission whose end a pending reset waits for. -/
theorem awaitedStarted_iff (s : State) :
    s.awaitedStarted = true ↔ ∃ e, s.tx = some (.control e) ∧ e.awaited = true := by
  unfold State.awaitedStarted
  split
  · rename_i e sending
    simp [sending]
  · rename_i other
    simp only [Bool.false_eq_true, false_iff]
    rintro ⟨e, sending, _⟩
    exact other e sending

theorem exec_resets {c : Instr} {s t : State} (answer : exec c s = .next t) (reset : performsReset c s = true) :
    ResetOf s t := by
  cases c with
  | powerOn =>
    cases answer
    exact .held false s.resetNLow .power (by simp)
  | resetNAsserted =>
    cases answer
    exact .held s.supplyGood true _ rfl
  | pinResetComplete straps =>
    have next : exec (.pinResetComplete straps) s
        = .next (resetValues { s with straps := straps, supplyGood := true, resetNLow := false }) :=
      congrArg Host.Outcome.next (if_pos reset)
    cases next.symm.trans answer
    exact .released straps
  | resetDeadline =>
    simp only [performsReset, Bool.and_eq_true, Bool.not_eq_true', Option.any_eq_true] at reset
    obtain ⟨⟨working, waiting⟩, p, pending, due⟩ := reset
    rw [exec_resetDeadline_of_working working, expireReset_of_due pending waiting due] at answer
    cases answer
    exact .ordered working s.carrier p.level
  | controlFrameComplete =>
    simp only [performsReset, Bool.and_eq_true, Bool.not_eq_true', Option.isSome_iff_exists,
      awaitedStarted_iff] at reset
    obtain ⟨⟨working, e, sending, awaited⟩, p, pending⟩ := reset
    rw [exec_controlFrameComplete_of_working working, completeControl_of_awaited pending sending awaited] at answer
    cases answer
    exact .ordered working s.carrier p.level
  | carrierLoss =>
    simp only [performsReset, Bool.and_eq_true, Bool.not_eq_true', Option.isSome_iff_exists,
      awaitedStarted_iff] at reset
    obtain ⟨⟨⟨working, carrier⟩, e, sending, awaited⟩, p, pending⟩ := reset
    rw [exec_carrierLoss_of_working working carrier, loseCarrier_of_awaited pending sending awaited] at answer
    cases answer
    exact .ordered working false p.level
  | _ => cases reset

/-! ### Every command answers -/

/-- No gate refuses. -/
theorem live_answers (s : State) (f : State → State) : ∃ t, live s f = .next t :=
  let ⟨t, next, _⟩ := live_next s f
  ⟨t, next⟩

theorem command_answers (s : State) (id : Word16) (code : Byte) (run : State → Execution) :
    ∃ t, command s id code run = .next t :=
  live_answers s fun s => received s fun s => takeRequest s id code run

theorem exec_answers (c : Instr) (s : State) : ∃ t, exec c s = .next t := by
  cases c with
  | writeTemplate id template length bytes =>
    by_cases declared : templateLengthRule length bytes = true
    · exact ⟨_, (if_pos declared).trans (command_answers ..).choose_spec⟩
    · exact ⟨_, (if_neg declared).trans (live_answers ..).choose_spec⟩
  | unknownCommand id code params =>
    by_cases fits : paramsFit params = true
    · by_cases unknown : unknownCode code = true
      · refine ⟨_, ((if_neg (by simp [fits])).trans (if_pos unknown)).trans (command_answers ..).choose_spec⟩
      · exact ⟨s, (if_neg (by simp [fits])).trans (if_neg unknown)⟩
    · exact ⟨_, (if_pos (by simp [fits])).trans (live_answers ..).choose_spec⟩
  | _ => exact ⟨_, rfl⟩

end Sys2Proof.Machine
end

section
/-! Proofs: every command answers a next state; a held part takes only its pins; and which command may change configuration, ACTIVE bank, sequences and express run (R1, R83, R106, R124, R151, R158). -/

namespace Sys2Proof.Machine

open Safety

/-! ### What a gated command keeps -/

section Keeps

variable {P : State → Prop} {s t : State}

theorem live_keeps {f : State → State} (answer : live s f = .next t) (h : P s) (kept : P (f s)) : P t := by
  obtain ⟨u, next, rfl | rfl⟩ := live_next s f
  · cases next.symm.trans answer
    exact h
  · cases next.symm.trans answer
    exact kept

theorem received_keeps {f : State → State} (h : P s) (counts : ∀ trunk, P { s with trunk := trunk })
    (kept : P (f s)) : P (received s f) := by
  obtain passes | taken | counted := received_cases s f
  · rw [passes]; exact h
  · rw [taken]; exact kept
  · rw [counted]; exact counts _

/-- A property that looks neither at Reply Cache and Control Queue nor at the MGMT and TRUNK counters is kept by a request whose command keeps it. -/
theorem command_keeps {run : State → Execution} {id : Word16} {code : Byte}
    (answer : command s id code run = .next t) (blind : ∀ u v, P u → P (u.requestOf v))
    (runs : ∀ u, P u → P (run u).state) (h : P s) : P t := by
  refine live_keeps answer h (received_keeps h (fun trunk => blind s { s with trunk := trunk } h) ?_)
  unfold takeRequest
  split
  · exact blind s { s with mgmt := { s.mgmt with dropped := bump s.mgmt.dropped } } h
  · split
    · dsimp only
      split
      · rename_i r _
        exact blind s (State.placeControl { s with mgmt := { s.mgmt with replays := bump s.mgmt.replays } }
          ⟨.mgmtReply r, false⟩) h
      · exact blind s { s with mgmt := { s.mgmt with replays := bump s.mgmt.replays } } h
    · have ran : P (run (accepted s)).state := runs _ (blind s (accepted s) h)
      dsimp only
      split
      · rename_i r _
        exact blind (run (accepted s)).state (State.placeControl { (run (accepted s)).state with
          replyCache := (run (accepted s)).state.replyCache ++ [_] } ⟨.mgmtReply r, (run (accepted s)).awaited⟩) ran
      · exact blind (run (accepted s)).state { (run (accepted s)).state with
          replyCache := (run (accepted s)).state.replyCache ++ [_] } ran

end Keeps

/-! ### Every command answers, and leaves the commands that wait -/

theorem Touches.pending {c : Instr} {s t : State} (h : Touches c s t) (pins : c ≠ .powerOn ∧ c ≠ .resetNAsserted) :
    t.pending = s.pending := by
  have same := congrArg State.pending h
  cases c with
  | powerOn => exact absurd rfl pins.1
  | resetNAsserted => exact absurd rfl pins.2
  | _ => exact same

theorem ResetOf.pending {s t : State} (h : ResetOf s t) : t.pending = s.pending := by
  cases h with
  | ordered _ _ level => cases level <;> rfl
  | held => rfl
  | released => rfl

theorem exec_pending {c : Instr} {s t : State} (answer : exec c s = .next t) : t.pending = s.pending := by
  cases reset : performsReset c s with
  | true => exact (exec_resets answer reset).pending
  | false =>
    refine (exec_touches answer reset).pending ⟨?_, ?_⟩
    · rintro rfl
      cases reset
    · rintro rfl
      cases reset

theorem command_of_held {s : State} (held : s.held = true) (id : Word16) (code : Byte) (run : State → Execution) :
    command s id code run = .next s := live_of_held held _

/-- In a held part only the pins act (R158). -/
theorem exec_of_held {s : State} (held : s.held = true) {c : Instr} (powerOn : c ≠ .powerOn)
    (resetN : c ≠ .resetNAsserted) (complete : ∀ straps, c ≠ .pinResetComplete straps) (gain : c ≠ .carrierGain)
    (loss : c ≠ .carrierLoss) : exec c s = .next s := by
  cases c with
  | powerOn => exact absurd rfl powerOn
  | resetNAsserted => exact absurd rfl resetN
  | pinResetComplete straps => exact absurd rfl (complete straps)
  | carrierGain => exact absurd rfl gain
  | carrierLoss => exact absurd rfl loss
  | writeTemplate id template length bytes =>
    by_cases declared : templateLengthRule length bytes = true
    · exact (if_pos declared).trans (command_of_held held ..)
    · exact (if_neg declared).trans (live_of_held held _)
  | unknownCommand id code params =>
    by_cases fits : paramsFit params = true
    · by_cases unknown : unknownCode code = true
      · exact ((if_neg (by simp [fits])).trans (if_pos unknown)).trans (command_of_held held ..)
      · exact (if_neg (by simp [fits])).trans (if_neg unknown)
    · exact (if_pos (by simp [fits])).trans (live_of_held held _)
  | _ => exact congrArg Host.Outcome.next (if_pos held)

/-- Settles O3: every gate answers, and behind the gate of a held part nothing comes about. -/
theorem everyCommandAnswersNext : Obligations.EveryCommandAnswersNext := by
  refine ⟨fun c s => ?answers, fun s held => ⟨fun c => exec_of_held held, fun empty => ?idle⟩⟩
  case answers =>
    obtain ⟨t, answer⟩ := exec_answers c s
    exact ⟨t, answer, exec_pending answer⟩
  case idle =>
    have ticks : step s = .next (tick s) := by simp only [step, empty]
    rw [ticks, tick, if_pos held]

/-- Settles O1: the front command is taken from the queue and run. -/
theorem stepRunsFrontCommand : Obligations.StepRunsFrontCommand := fun _ _ => rfl

/-! ### What only its own command may change -/

section Own

variable {c : Instr} {s t : State}

/-- The global configuration changes only by a SET_CONFIG in QUIESCED (R152). -/
theorem exec_config (answer : exec c s = .next t) (noReset : performsReset c s = false) :
    t.config = s.config ∨ (s.opState = .quiesced ∧ ∃ id r, c = .setConfig id r) := by
  have same := congrArg State.config (exec_touches answer noReset)
  cases c with
  | setConfig id r =>
    by_cases quiesced : s.opState = .quiesced
    · exact .inr ⟨quiesced, id, r, rfl⟩
    · refine .inl (command_keeps (P := fun u => u.opState ≠ .quiesced → u.config = s.config) answer
        (fun _ _ h => h) (fun u h => ?_) (fun _ => rfl) ?_)
      · split
        · exact h
        · split
          · exact h
          · rename_i now
            exact fun busy => absurd (not_not.mp now) busy
      · have kept := congrArg State.opState (exec_touches answer noReset)
        exact fun h => quiesced (kept.symm.trans h)
  | powerOn => cases noReset
  | resetNAsserted => cases noReset
  | _ => exact .inl same

/-- The ACTIVE bank changes only by a COMMIT_MATCH, to the SHADOW bank (R31). -/
theorem exec_active (answer : exec c s = .next t) (noReset : performsReset c s = false) :
    t.active = s.active ∨ (t.active = s.shadow ∧ ∃ id, c = .commitMatch id) := by
  have same := congrArg State.active (exec_touches answer noReset)
  cases c with
  | commitMatch id =>
    have committed := command_keeps
      (P := fun u => (u.active = s.active ∨ u.active = s.shadow) ∧ u.shadow = s.shadow) answer (fun _ _ h => h)
      (fun u h => ⟨.inr h.2, h.2⟩) ⟨.inl rfl, rfl⟩
    exact committed.1.imp_right fun shadow => ⟨shadow, id, rfl⟩
  | powerOn => cases noReset
  | resetNAsserted => cases noReset
  | _ => exact .inl same

/-- The state in which a new bundle has been started, before the move into the place it frees (R81, R106). -/
def startedBundle (s : State) (cls : BundleClass) (d : Descriptor) (rest : List Descriptor) : State :=
  { s.setQueue cls rest with
    tx := some (.bundle ⟨d, s.nextSeq, 0, false⟩)
    retention := s.retention ++ [⟨d, s.nextSeq, 0, false⟩]
    nextSeq := s.nextSeq + 1
    expressRun := s.runAfter cls
    startHistory := s.recordedStarts
    trunk := { s.trunk with firstSent := bump s.trunk.firstSent } }

theorem startNewBundle_of_queue {cls : BundleClass} {d : Descriptor} {rest : List Descriptor}
    (queue : s.queue cls = d :: rest) : startNewBundle s cls = moveHead (startedBundle s cls d rest) cls := by
  unfold startNewBundle
  rw [queue]
  cases cls <;> rfl

theorem startNewBundle_of_empty {cls : BundleClass} (queue : s.queue cls = []) : startNewBundle s cls = s := by
  unfold startNewBundle
  rw [queue]

theorem startNewBundle_nextSeq (s : State) (cls : BundleClass) :
    (startNewBundle s cls).nextSeq = s.nextSeq ∨ (startNewBundle s cls).nextSeq = s.nextSeq + 1 := by
  cases queue : s.queue cls with
  | nil => exact .inl (by rw [startNewBundle_of_empty queue])
  | cons d rest =>
    rw [startNewBundle_of_queue queue]
    exact .inr (congrArg State.nextSeq (moveHead_reach _ cls) :)

theorem startFirst_nextSeq (s : State) :
    (startFirst s).nextSeq = s.nextSeq ∨ (startFirst s).nextSeq = s.nextSeq + 1 := by
  unfold startFirst
  split
  · split
    · exact .inl rfl
    · exact startNewBundle_nextSeq s _
  · exact .inl rfl

/-- The next bundle sequence rises only at a first transmission start (R106). -/
theorem exec_nextSeq (answer : exec c s = .next t) (noReset : performsReset c s = false) :
    t.nextSeq = s.nextSeq ∨ (t.nextSeq = s.nextSeq + 1 ∧ c = .firstTransmissionStart) := by
  have same := congrArg State.nextSeq (exec_touches answer noReset)
  cases c with
  | firstTransmissionStart =>
    have started := live_keeps (P := fun u => u.nextSeq = s.nextSeq ∨ u.nextSeq = s.nextSeq + 1) answer (.inl rfl)
      (startFirst_nextSeq s)
    exact started.imp_right fun next => ⟨next, rfl⟩
  | powerOn => cases noReset
  | resetNAsserted => cases noReset
  | _ => exact .inl same

/-- The express-run count changes only at a first transmission start (R83). -/
theorem exec_expressRun (answer : exec c s = .next t) (noReset : performsReset c s = false) :
    t.expressRun = s.expressRun ∨ c = .firstTransmissionStart := by
  have same := congrArg State.expressRun (exec_touches answer noReset)
  cases c with
  | firstTransmissionStart => exact .inr rfl
  | powerOn => cases noReset
  | resetNAsserted => cases noReset
  | _ => exact .inl same

/-- A sequence is equal to the expected one exactly when it is neither behind nor ahead (R1 (2)). -/
theorem seqCase_eq_equal {reference value : Word16} (h : seqCase reference value = .equal) : value = reference := by
  unfold seqCase at h
  dsimp only at h
  split at h
  · bv_omega
  · split at h <;> cases h

theorem admitEntries_expectedDispatch (s : State) (seq : Word16) (index : Nat) (es : List DispatchEntry) :
    (admitEntries s seq index es).expectedDispatch = s.expectedDispatch := by
  induction es generalizing s index with
  | nil => rfl
  | cons e es ih =>
    refine (ih _ _).trans ?_
    unfold admitEntry
    dsimp only
    split
    · rfl
    · exact (congrArg State.expectedDispatch (reportUndelivered_reach _ _ _ _) :)
    · exact (congrArg State.expectedDispatch (reportUndelivered_reach _ _ _ _) :)

/-- After a DISPATCH of `seq` the expected sequence is as before, or it was `seq` and is the one after. -/
def ExpectsNext (s : State) (seq : Word16) (t : State) : Prop :=
  t.expectedDispatch = s.expectedDispatch
    ∨ (t.expectedDispatch = s.expectedDispatch + 1 ∧ seq = s.expectedDispatch)

theorem takeDispatch_expectsNext (s : State) (seq : Word16) (es : List DispatchEntry) :
    ExpectsNext s seq (takeDispatch s seq es) := by
  unfold takeDispatch takeExpected
  split
  · exact .inl rfl
  · split
    · exact .inl rfl
    · exact .inl rfl
    · rename_i equal
      split
      · exact .inl rfl
      · split
        · refine .inr ⟨?_, seqCase_eq_equal equal⟩
          exact congrArg (· + 1) (admitEntries_expectedDispatch s seq 0 es)
        · exact .inl rfl

/-- The expected dispatch sequence rises only by the DISPATCH of that sequence (R120, R124). -/
theorem exec_expectedDispatch (answer : exec c s = .next t) (noReset : performsReset c s = false) :
    t.expectedDispatch = s.expectedDispatch
      ∨ (t.expectedDispatch = s.expectedDispatch + 1 ∧ ∃ es, c = .dispatch s.expectedDispatch es) := by
  have same := congrArg State.expectedDispatch (exec_touches answer noReset)
  cases c with
  | dispatch seq es =>
    have answer : live s (fun s => if dispatchLengthRule es then received s fun s => takeDispatch s seq es
      else countBadLength s) = .next t := answer
    have same : ExpectsNext s seq s := .inl rfl
    have taken : ExpectsNext s seq t := by
      refine live_keeps answer same ?_
      split
      · exact received_keeps same (fun _ => same) (takeDispatch_expectsNext s seq es)
      · unfold countBadLength
        split <;> exact same
    exact taken.imp_right fun ⟨next, equal⟩ => ⟨next, es, by rw [equal]⟩
  | powerOn => cases noReset
  | resetNAsserted => cases noReset
  | _ => exact .inl same

/-- No command takes part time, moves the straps, samples them or sets the reset cause, but for a reset (R1, R100, R158). -/
theorem exec_clock (answer : exec c s = .next t) (noReset : performsReset c s = false) :
    t.partTime = s.partTime ∧ t.unitNumber = s.unitNumber ∧ t.straps = s.straps ∧ t.resetCause = s.resetCause := by
  have touched := exec_touches answer noReset
  have time := congrArg State.partTime touched
  have unit := congrArg State.unitNumber touched
  have straps := congrArg State.straps touched
  have cause := congrArg State.resetCause touched
  cases c with
  | powerOn => cases noReset
  | resetNAsserted => cases noReset
  | _ => exact ⟨time, unit, straps, cause⟩

end Own

/-- Settles O18: for each field, the commands that may touch it and what they leave in it. -/
theorem onlyTheirCommandsChangeThem : Obligations.OnlyTheirCommandsChangeThem := by
  intro c s t answer noReset
  exact ⟨(exec_config answer noReset).resolve_left, (exec_active answer noReset).resolve_left,
    (exec_nextSeq answer noReset).resolve_left, (exec_expressRun answer noReset).resolve_left,
    (exec_expectedDispatch answer noReset).resolve_left, exec_clock answer noReset⟩

end Sys2Proof.Machine
end

section
/-! Proofs: laws of the events and of block storage. A law that every raised event and every run of content bytes written keeps, and that looks at nothing else, is kept by every command but a reset and the start of an EVENT frame. -/

namespace Sys2Proof.Machine

open Safety

/-! ### A law of every step -/

/-- What a tick changes beside the waiting commands: part time and the straps' level (R1, R100). -/
def State.clocked (s : State) (now : PartTime) (straps : BitVec 4) (changes : List (BitVec 4)) (queue : List Instr) :
    State :=
  { s with partTime := now, straps := straps, strapChanges := changes, pending := queue }

theorem tick_clocked (s : State) :
    ∃ now straps changes queue, tick s = s.clocked now straps changes queue := by
  by_cases held : s.held = true
  · exact ⟨s.partTime, s.straps, s.strapChanges, s.pending, if_pos held⟩
  · exact ⟨_, _, _, _, tick_of_working (Bool.eq_false_iff.mpr held)⟩

/-- What a step leads to: `A` holds before it and at every tick, and gives `B` after a command or a reset. -/
theorem step_leads {A B : State → Prop} {s t : State} (stepped : step s = .next t)
    (clock : ∀ {u} now straps changes queue, A u → A (State.clocked u now straps changes queue))
    (ticked : ∀ {u}, A u → B u)
    (command : ∀ {c u v}, exec c u = .next v → performsReset c u = false → A u → B v)
    (reset : ∀ {u v}, ResetOf u v → A u → B v) (h : A s) : B t := by
  unfold step at stepped
  split at stepped
  · cases stepped
    obtain ⟨now, straps, changes, queue, ticks⟩ := tick_clocked s
    rw [ticks]
    exact ticked (clock now straps changes queue h)
  · rename_i c rest _
    have waiting : A { s with pending := rest } := clock s.partTime s.straps s.strapChanges rest h
    cases resets : performsReset c { s with pending := rest } with
    | true => exact reset (exec_resets stepped resets) waiting
    | false => exact command stepped resets waiting

/-- A law that a tick, every command and every reset keep is kept by every step. -/
theorem step_keeps {P : State → Prop} {s t : State} (stepped : step s = .next t)
    (clock : ∀ {u} now straps changes queue, P u → P (State.clocked u now straps changes queue))
    (command : ∀ {c u v}, exec c u = .next v → performsReset c u = false → P u → P v)
    (reset : ∀ {u v}, ResetOf u v → P u → P v) (h : P s) : P t :=
  step_leads stepped clock id command reset h

/-! ### Laws of events and block storage -/

/-- A law that looks at block storage and at the Event Queue with its next number alone. -/
structure StorageLaw (P : State → Prop) : Prop where
  blind : ∀ {s t : State}, P s → t.blockMem = s.blockMem → t.eventQueue = s.eventQueue →
    t.eventNumber = s.eventNumber → P t
  raised : ∀ {s : State} (e : Event), P s → P (raise s e)
  written : ∀ {s : State} (chain : List BlockNo) (start : Nat) (bytes : List Byte), P s →
    P { s with blockMem := writeContent s.blockMem chain start bytes }

section Law

variable {P : State → Prop} {s t : State}

theorem StorageLaw.of_close (law : StorageLaw P) (reach : CloseReach s t) (h : P s) : P t := by
  have mem : t.blockMem = s.blockMem := (congrArg State.blockMem reach :)
  have queue : t.eventQueue = s.eventQueue := (congrArg State.eventQueue reach :)
  have number : t.eventNumber = s.eventNumber := (congrArg State.eventNumber reach :)
  exact law.blind h mem queue number

theorem StorageLaw.checkPoolLow (law : StorageLaw P) (h : P s) : P (checkPoolLow s) := by
  unfold Machine.checkPoolLow
  split
  · exact law.raised _ (law.blind h rfl rfl rfl)
  · exact h

theorem StorageLaw.checkPoolExhausted (law : StorageLaw P) (h : P s) : P (checkPoolExhausted s) := by
  unfold Machine.checkPoolExhausted
  split
  · exact law.raised _ (law.blind h rfl rfl rfl)
  · exact h

theorem StorageLaw.grant (law : StorageLaw P) (k : Nat) (h : P s) : P (grant s k).1 := by
  unfold Machine.grant
  split
  · exact law.checkPoolLow (law.blind h rfl rfl rfl)
  · exact law.checkPoolExhausted (law.blind h rfl rfl rfl)

theorem StorageLaw.returnChain (law : StorageLaw P) (chain : List BlockNo) (h : P s) : P (returnChain s chain) := by
  unfold Machine.returnChain rearmPool
  split <;> exact law.blind h rfl rfl rfl

theorem postAppend_closeReach (s : State) (n : SlotNo) (r : TakenRecord) : CloseReach s (postAppend s n r) := by
  unfold postAppend
  split
  · exact closeSlot_closeReach s n _
  · split
    · exact closeSlot_closeReach s n _
    · split
      · split
        · exact closeSlot_closeReach s n _
        · rfl
      · rfl

theorem StorageLaw.appendEntry (law : StorageLaw P) (n : SlotNo) (b : Bundle) (age : Option PartTime)
    (r : TakenRecord) (blocks : List BlockNo) (h : P s) : P (appendEntry s n b age r blocks) := by
  unfold Machine.appendEntry
  refine law.of_close (postAppend_closeReach _ n r) (law.blind (law.written _ _ _ h) rfl rfl rfl)

theorem StorageLaw.openSlot (law : StorageLaw P) (n : SlotNo) (p : Fin 32) (r : TakenRecord)
    (blocks : List BlockNo) (h : P s) : P (openSlot s n p r blocks) := by
  unfold Machine.openSlot
  refine law.of_close (postAppend_closeReach _ n r) (law.blind (law.written _ _ _ h) rfl rfl rfl)

theorem StorageLaw.startEviction (law : StorageLaw P) (h : P s) : P (startEviction s) := by
  unfold Machine.startEviction
  split
  · exact law.blind (law.of_close (closeSlot_closeReach s _ .evicted) h) rfl rfl rfl
  · exact h

theorem StorageLaw.placeNew (law : StorageLaw P) (p : Fin 32) (r : TakenRecord) (h : P s) : P (placeNew s p r).1 := by
  unfold Machine.placeNew
  split
  · have granted := law.grant (openNeed s s.profiles[p] r) h
    split
    · rename_i answer
      rw [answer] at granted
      exact law.openSlot _ p r _ granted
    · rename_i answer
      rw [answer] at granted
      exact granted
  · exact law.startEviction h

theorem StorageLaw.placeValid (law : StorageLaw P) (p : Fin 32) (r : TakenRecord) (h : P s) :
    P (placeValid s p r).1 := by
  unfold Machine.placeValid
  split
  · exact law.placeNew p r h
  · dsimp only
    split
    · exact law.placeNew p r (law.of_close (closeSlot_closeReach s _ _) h)
    · split
      · exact law.appendEntry _ _ _ r _ h
      · have granted := law.grant 1 h
        split
        · rename_i answer
          rw [answer] at granted
          exact law.appendEntry _ _ _ r _ granted
        · rename_i answer
          rw [answer] at granted
          exact law.of_close (closeSlot_closeReach _ _ _) granted

theorem StorageLaw.place (law : StorageLaw P) (p : Fin 32) (r : TakenRecord) (h : P s) : P (place s p r).1 := by
  unfold Machine.place
  split
  · have placed := law.placeValid p r h
    split
    · rename_i answer
      rw [answer] at placed
      exact law.blind placed rfl rfl rfl
    · exact placed
  · exact law.blind h rfl rfl rfl

theorem StorageLaw.handOver (law : StorageLaw P) (p : Fin 32) (r : TakenRecord) (h : P s) : P (handOver s p r) := by
  have placed := law.place p r h
  rw [handOver_of_place (Prod.eta _).symm]
  split
  · exact law.blind placed rfl rfl rfl
  · exact placed

theorem StorageLaw.tryHeld (law : StorageLaw P) (h : P s) : P (tryHeld s) := by
  unfold Machine.tryHeld
  split
  · rename_i held _ _
    have placed := law.place held.profile held.taken h
    split
    · rename_i answer
      rw [answer] at placed
      exact placed
    · rename_i answer
      rw [answer] at placed
      exact law.blind placed rfl rfl rfl
  · exact h

theorem StorageLaw.tryHeldFor (law : StorageLaw P) (p : Fin 32) (h : P s) : P (tryHeldFor s p) := by
  unfold Machine.tryHeldFor
  split
  · split
    · exact law.tryHeld h
    · exact h
  · exact h

theorem StorageLaw.giveBack (law : StorageLaw P) (chain : List BlockNo) (h : P s) : P (giveBack s chain) :=
  law.tryHeld (law.returnChain chain h)

theorem StorageLaw.endDrain (law : StorageLaw P) (status : Status) (result : List Byte) (h : P s) :
    P (endDrain s status result) := by
  unfold Machine.endDrain
  dsimp only
  repeat' split
  all_goals exact law.blind h rfl rfl rfl

theorem StorageLaw.slotBecameIdle (law : StorageLaw P) (h : P s) : P (slotBecameIdle s) := by
  unfold Machine.slotBecameIdle
  split
  · exact law.tryHeld h
  · split
    · exact law.endDrain _ _ h
    · exact h
  · exact h

theorem StorageLaw.moveHead (law : StorageLaw P) (cls : BundleClass) (h : P s) : P (moveHead s cls) := by
  obtain same | ⟨n, rest, b, cause, qc, _, _, moved⟩ := moveHead_cases s cls
  · rw [same]
    exact h
  · rw [moved]
    refine law.slotBecameIdle (law.blind h ?_ ?_ ?_) <;> cases cls <;> rfl

theorem StorageLaw.classified (law : StorageLaw P) (r : TakenRecord) (h : P s) : P (classified s r) := by
  have reported : P (reportMiss s r) := by
    unfold reportMiss
    split
    · exact law.raised _ (law.blind h rfl rfl rfl)
    · exact h
  unfold Machine.classified handleHit handleMiss
  split
  · dsimp only
    split
    · exact law.blind h rfl rfl rfl
    · exact law.handOver _ r (law.blind h rfl rfl rfl)
  · dsimp only
    split
    · exact law.blind reported rfl rfl rfl
    · exact law.handOver _ r reported

theorem StorageLaw.classifierTake (law : StorageLaw P) (h : P s) : P (classifierTake s) := by
  cases next : s.nextTake with
  | none =>
    unfold Machine.classifierTake
    rw [next]
    exact h
  | some taken =>
    obtain ⟨p, r, rest⟩ := taken
    rw [classifierTake_of_next next]
    exact law.classified _ (law.blind h rfl rfl rfl)

/-! ### Field ports and Dispatch Unit -/

theorem StorageLaw.modPort (law : StorageLaw P) (p : PortNo) (f : Port → Port) (h : P s) : P (s.modPort p f) :=
  law.blind h rfl rfl rfl

theorem StorageLaw.reportOverflow (law : StorageLaw P) (p : PortNo) (h : P s) : P (reportOverflow s p) := by
  unfold Machine.reportOverflow
  split
  · exact law.raised _ (law.blind h rfl rfl rfl)
  · exact h

theorem StorageLaw.takeHeader (law : StorageLaw P) (p : PortNo) (v : Byte) (h : P s) : P (takeHeader s p v) := by
  have fails (port : Port) : P (s.setPort p port) := law.blind h rfl rfl rfl
  have passes : P (writeHeader s p v) := by
    unfold writeHeader overflowAtHeader
    split
    · exact law.reportOverflow p (law.modPort p _ h)
    · exact law.modPort p _ h
  unfold Machine.takeHeader
  dsimp only
  split
  · split
    exacts [fails _, passes]
  · split
    · split
      exacts [fails _, passes]
    · split
      exacts [fails _, passes]

theorem StorageLaw.takePayload (law : StorageLaw P) (p : PortNo) (v : Byte) (h : P s) : P (takePayload s p v) := by
  unfold Machine.takePayload
  dsimp only
  split
  · exact law.reportOverflow p (law.blind h rfl rfl rfl)
  · exact law.blind h rfl rfl rfl

theorem StorageLaw.takeCheck (law : StorageLaw P) (p : PortNo) (v : Byte) (h : P s) : P (takeCheck s p v) := by
  unfold Machine.takeCheck
  dsimp only
  repeat' split
  all_goals exact law.blind h rfl rfl rfl

theorem StorageLaw.takeCharacter (law : StorageLaw P) (p : PortNo) (v : Byte) (framing : Bool) (h : P s) :
    P (takeCharacter s p v framing) := by
  unfold Machine.takeCharacter
  split
  case h_1 => exact h
  case h_2 => split; exacts [law.modPort p _ h, h]
  case h_3 => split; exacts [law.modPort p _ h, law.takeHeader p v h]
  case h_4 => split; exacts [law.modPort p _ h, law.takePayload p v h]
  case h_5 => split; exacts [law.modPort p _ h, law.takeCheck p v h]
  case h_6 => split; exacts [law.modPort p _ h, law.modPort p _ h]

theorem StorageLaw.byteGapExpiry (law : StorageLaw P) (p : PortNo) (h : P s) : P (byteGapExpiry s p) := by
  unfold Machine.byteGapExpiry
  repeat' split
  all_goals first | exact h | exact law.modPort p _ h

theorem StorageLaw.reportUndelivered (law : StorageLaw P) (p : PortNo) (r : PortTxRecord)
    (reason : UndeliveredReason) (h : P s) : P (reportUndelivered s p r reason) := by
  unfold Machine.reportUndelivered
  split
  · exact law.raised _ h
  · exact h

theorem StorageLaw.fieldFrameDone (law : StorageLaw P) (p : PortNo) (h : P s) : P (fieldFrameDone s p) := by
  unfold Machine.fieldFrameDone
  split
  · exact h
  · dsimp only
    split
    · exact law.modPort p _ (law.raised _ (law.modPort p _ h))
    · exact law.modPort p _ (law.modPort p _ h)

theorem StorageLaw.discardQueued (law : StorageLaw P) (p : PortNo) (l : List PortTxRecord) (h : P s) :
    P (discardQueued s p l) := by
  induction l generalizing s with
  | nil => exact h
  | cons r l ih => exact ih (law.reportUndelivered p r _ (law.modPort p _ h))

theorem StorageLaw.disablePort (law : StorageLaw P) (p : PortNo) (h : P s) : P (disablePort s p) := by
  refine law.discardQueued p _ (law.modPort p _ ?_)
  unfold abortSending
  split
  · exact law.modPort p _ h
  · exact law.reportUndelivered p _ _ (law.modPort p _ (law.modPort p _ h))

theorem StorageLaw.controlPort (law : StorageLaw P) (p : PortNo) (enable : Bool) (rate : BitRate) (maxLen : Byte)
    (h : P s) : P (controlPort s p enable rate maxLen).state := by
  unfold Machine.controlPort
  split
  · exact law.blind (law.disablePort p h) rfl rfl rfl
  · repeat' split
    all_goals exact law.blind h rfl rfl rfl

theorem StorageLaw.admitEntries (law : StorageLaw P) (seq : Word16) (index : Nat) (es : List DispatchEntry)
    (h : P s) : P (admitEntries s seq index es) := by
  induction es generalizing s index with
  | nil => exact h
  | cons e es ih =>
    refine ih _ ?_
    unfold admitEntry
    dsimp only
    split
    · exact law.modPort _ _ h
    · exact law.reportUndelivered _ _ _ (law.blind h rfl rfl rfl)
    · exact law.reportUndelivered _ _ _ (law.blind h rfl rfl rfl)

theorem StorageLaw.takeDispatch (law : StorageLaw P) (seq : Word16) (es : List DispatchEntry) (h : P s) :
    P (takeDispatch s seq es) := by
  have admitted : P (admitFrame s seq es) := law.blind (law.admitEntries seq 0 es h) rfl rfl rfl
  unfold Machine.takeDispatch takeExpected
  repeat' split
  all_goals first | exact admitted | exact law.blind h rfl rfl rfl

/-! ### Trunk -/

theorem StorageLaw.stall (law : StorageLaw P) (h : P s) : P (stall s) := by
  unfold Machine.stall
  dsimp only
  split
  · exact law.blind h rfl rfl rfl
  · exact law.raised _ (law.blind h rfl rfl rfl)

theorem StorageLaw.retryCheck (law : StorageLaw P) (h : P s) : P (retryCheck s) := by
  unfold Machine.retryCheck
  repeat' split
  all_goals first | exact h | exact law.stall h

theorem StorageLaw.expireAck (law : StorageLaw P) (h : P s) : P (expireAck s) := by
  unfold Machine.expireAck
  repeat' split
  all_goals first | exact h | exact law.stall h | exact law.blind h rfl rfl rfl

theorem StorageLaw.takeSync (law : StorageLaw P) (h : P s) : P (takeSync s) := by
  unfold Machine.takeSync
  split
  · exact h
  · split
    · exact law.blind h rfl rfl rfl
    · dsimp only
      split
      · exact law.raised _ (law.blind h rfl rfl rfl)
      · exact law.blind h rfl rfl rfl

theorem StorageLaw.startFirst (law : StorageLaw P) (h : P s) : P (startFirst s) := by
  unfold Machine.startFirst
  split
  · split
    · exact h
    · rename_i cls _
      cases queue : s.queue cls with
      | nil => rw [startNewBundle_of_empty queue]; exact h
      | cons d rest =>
        rw [startNewBundle_of_queue queue]
        refine law.moveHead cls (law.blind h ?_ ?_ ?_) <;> cases cls <;> rfl
  · exact h

theorem StorageLaw.removeOldest (law : StorageLaw P) (k : Nat) (h : P s) : P (removeOldest k s) := by
  induction k generalizing s with
  | zero => exact h
  | succ k ih =>
    unfold Machine.removeOldest
    split
    · exact h
    · dsimp only
      split
      · exact ih (law.blind h rfl rfl rfl)
      · exact ih (law.giveBack _ (law.blind h rfl rfl rfl))

theorem StorageLaw.returnHold (law : StorageLaw P) (h : P s) : P (returnHold s) := by
  unfold Machine.returnHold
  split
  · exact h
  · exact law.giveBack _ (law.blind h rfl rfl rfl)

theorem StorageLaw.completeBundle (law : StorageLaw P) (h : P s) : P (completeBundle s) := by
  unfold Machine.completeBundle
  split
  · split
    · exact law.returnHold (law.blind h rfl rfl rfl)
    · exact law.blind h rfl rfl rfl
  · exact h

theorem StorageLaw.linkDown (law : StorageLaw P) (h : P s) : P (linkDown s) := by
  have aborted : P (abortTransmission s) := by
    unfold abortTransmission
    split
    · exact h
    · exact law.blind h rfl rfl rfl
    · exact law.blind h rfl rfl rfl
    · exact law.blind h rfl rfl rfl
    · exact law.returnHold (law.blind h rfl rfl rfl)
  exact law.blind aborted rfl rfl rfl

theorem StorageLaw.takeAck (law : StorageLaw P) (n : Word16) (h : P s) : P (takeAck s n) := by
  unfold Machine.takeAck
  split
  · exact law.blind h rfl rfl rfl
  · exact law.blind (law.removeOldest _ h) rfl rfl rfl

theorem StorageLaw.takeNak (law : StorageLaw P) (n : Word16) (h : P s) : P (takeNak s n) := by
  unfold Machine.takeNak
  split
  · exact law.blind h rfl rfl rfl
  · exact law.blind (law.removeOldest _ h) rfl rfl rfl

theorem StorageLaw.discardClosed (law : StorageLaw P) (h : P s) : P (discardClosed s) := by
  refine List.foldlRecOn _ _ h fun u hu n _ => ?_
  unfold discardSlot
  split
  · rename_i b _ cls _
    refine law.blind (law.giveBack b.chain hu) ?_ ?_ ?_ <;> cases cls <;> rfl
  · exact hu

theorem StorageLaw.expireDrain (law : StorageLaw P) (h : P s) : P (expireDrain s) := by
  unfold Machine.expireDrain
  split
  · split
    · exact law.endDrain _ _ (law.raised _ (law.discardClosed h))
    · exact h
  · exact h

theorem loseCarrier_of_no_reset {s : State} (h : (s.awaitedStarted && s.pendingReset.isSome) = false) :
    loseCarrier s = linkDown s := by
  unfold loseCarrier
  split
  · rename_i e sending
    rw [State.awaitedStarted_of_control sending] at h
    exact controlEnded_of_no_reset (by rwa [linkDown_of_control sending])
  · rfl

theorem StorageLaw.execCarrierLoss (law : StorageLaw P) (noReset : performsReset .carrierLoss s = false)
    (answer : execCarrierLoss s = .next t) (h : P s) : P t := by
  unfold Machine.execCarrierLoss at answer
  split at answer
  · cases answer; exact h
  · rename_i carrier
    have carrier : s.carrier = true := by simpa using carrier
    split at answer
    · cases answer
      exact law.blind h rfl rfl rfl
    · rename_i working
      cases answer
      rw [loseCarrier_of_no_reset (by simpa [performsReset, carrier, working] using noReset)]
      exact law.linkDown h

/-- Every command but a reset and the start of an EVENT frame keeps a law of events and block storage. -/
theorem exec_keeps_storageLaw (law : StorageLaw P) {c : Instr} (answer : exec c s = .next t)
    (noReset : performsReset c s = false) (other : c ≠ .eventFrameStart) (h : P s) : P t := by
  have touched := exec_touches answer noReset
  have mem := congrArg State.blockMem touched
  have queue := congrArg State.eventQueue touched
  have number := congrArg State.eventNumber touched
  have request (u v : State) (hu : P u) : P (u.requestOf v) := law.blind hu rfl rfl rfl
  have passes (f : State → State) (hf : P (f s)) : P (received s f) :=
    received_keeps h (fun _ => law.blind h rfl rfl rfl) hf
  cases c with
  | characterArrival p v framing => exact live_keeps (f := (takeCharacter · p v framing)) answer h (law.takeCharacter p v framing h)
  | byteGapTimerExpiry p => exact live_keeps (f := (byteGapExpiry · p)) answer h (law.byteGapExpiry p h)
  | classifierTake => exact live_keeps answer h (law.classifierTake h)
  | slotMove cls => exact live_keeps (f := (moveHead · cls)) answer h (law.moveHead cls h)
  | firstTransmissionStart => exact live_keeps answer h (law.startFirst h)
  | retryCheckAtLimit => exact live_keeps answer h (law.retryCheck h)
  | bundleTransmissionComplete => exact live_keeps answer h (law.completeBundle h)
  | ackTimerExpiry => exact live_keeps answer h (law.expireAck h)
  | carrierLoss => exact law.execCarrierLoss noReset answer h
  | sync => exact live_keeps answer h (law.takeSync h)
  | bundleAck seq => exact live_keeps (f := (received · (takeAck · seq))) answer h (passes _ (law.takeAck seq h))
  | bundleNak seq => exact live_keeps (f := (received · (takeNak · seq))) answer h (passes _ (law.takeNak seq h))
  | dispatch seq es =>
    refine live_keeps (f := fun u => if dispatchLengthRule es then received u (takeDispatch · seq es)
      else countBadLength u) answer h ?_
    split
    · exact passes _ (law.takeDispatch seq es h)
    · unfold countBadLength
      split
      · exact h
      · exact law.blind h rfl rfl rfl
  | fieldFrameComplete p => exact live_keeps (f := (fieldFrameDone · p)) answer h (law.fieldFrameDone p h)
  | writeProfile id profile record =>
    refine command_keeps answer request (fun u hu => ?_) h
    split
    · exact law.tryHeldFor _ (law.of_close (closeProfile_closeReach _ _ _) (law.blind hu rfl rfl rfl))
    · exact hu
  | resume id =>
    refine command_keeps answer request (fun u hu => ?_) h
    split
    · exact law.tryHeld (law.blind hu rfl rfl rfl)
    · exact hu
    · exact hu
  | portControl id port enable bitRate maxLen =>
    refine command_keeps answer request (fun u hu => ?_) h
    split
    · exact hu
    · split
      · exact law.controlPort _ _ _ _ hu
      · exact hu
  | drainTimerExpiry => exact live_keeps answer h (law.expireDrain h)
  | eventFrameStart => exact absurd rfl other
  | powerOn => cases noReset
  | resetNAsserted => cases noReset
  | _ => exact law.blind h mem queue number

end Law

end Sys2Proof.Machine
end

section
/-! Proofs: what becomes of a request (R136 to R141), and what each command carried out leaves of Reply Cache and Control Queue. -/

namespace Sys2Proof.Machine

open Safety

/-! ### The three ends of a request -/

theorem controlRoom_iff (s : State) : s.controlRoom = true ↔ s.controlQueue.length ≤ 6 := by
  simp only [State.controlRoom, Config.controlShared, decide_eq_true_eq, Nat.lt_succ_iff]

/-- The state a carried-out command leaves, with its entry in the Reply Cache and its reply, if it has one, in the Control Queue (R141). -/
def concluded (x : Execution) (id : Word16) (code : Byte) : State :=
  { x.state with
    replyCache := x.state.replyCache ++ [⟨id, code, x.reply.map fun r => ⟨id, code, r.1, r.2⟩⟩]
    controlQueue := x.state.controlQueue
      ++ x.reply.toList.map fun r => ⟨.mgmtReply ⟨id, code, r.1, r.2⟩, x.awaited⟩ }

section Request

variable {s : State} {id : Word16} {code : Byte} {run : State → Execution}

/-- With 7 or 8 frames in the Control Queue the request is discarded (R136). -/
theorem takeRequest_of_full (full : s.controlRoom = false) :
    takeRequest s id code run = { s with mgmt := { s.mgmt with dropped := bump s.mgmt.dropped } } := by
  simp [takeRequest, full]

/-- A request whose id is cached is not executed (R140). -/
theorem takeRequest_of_cached {e : CacheEntry} (room : s.controlRoom = true)
    (cached : s.replyCache.find? (fun x => x.id == id) = some e) :
    takeRequest s id code run =
      { s with
        mgmt := { s.mgmt with replays := bump s.mgmt.replays }
        controlQueue := s.controlQueue ++ e.reply.toList.map fun r => ⟨.mgmtReply r, false⟩ } := by
  cases reply : e.reply <;> simp [takeRequest, room, cached, reply, State.placeControl]

/-- Any other request is carried out and enters the Reply Cache (R141). -/
theorem takeRequest_of_fresh (room : s.controlRoom = true)
    (fresh : s.replyCache.find? (fun x => x.id == id) = none) :
    takeRequest s id code run = concluded (run (accepted s)) id code := by
  have ran : takeRequest s id code run =
      match (run (accepted s)).reply.map fun r => (⟨id, code, r.1, r.2⟩ : MgmtReply) with
      | some r =>
        State.placeControl
          { (run (accepted s)).state with
            replyCache := (run (accepted s)).state.replyCache
              ++ [⟨id, code, (run (accepted s)).reply.map fun r => ⟨id, code, r.1, r.2⟩⟩] }
          ⟨.mgmtReply r, (run (accepted s)).awaited⟩
      | none =>
        { (run (accepted s)).state with
          replyCache := (run (accepted s)).state.replyCache
            ++ [⟨id, code, (run (accepted s)).reply.map fun r => ⟨id, code, r.1, r.2⟩⟩] } := by
    simp only [takeRequest, room, fresh, Bool.not_true, Bool.false_eq_true, if_false]
    rfl
  rw [ran]
  generalize run (accepted s) = x
  cases reply : x.reply <;> simp [concluded, reply, State.placeControl]

theorem command_of_receives (receives : Receives s) : command s id code run = .next (takeRequest s id code run) := by
  rw [command, live_of_working receives.1, received_of_receives receives]

end Request

/-- Settles O50: a full Control Queue and a cached id each keep the request from being carried out. -/
theorem cachedRequestIsNotExecuted : Obligations.CachedRequestIsNotExecuted := by
  intro s id code run receives
  rw [command_of_receives receives]
  refine ⟨fun full => ?dropped, fun e room cached => ?replayed⟩
  case dropped =>
    rw [takeRequest_of_full]
    exact Bool.eq_false_iff.mpr fun room => by
      have := (controlRoom_iff s).mp room
      omega
  case replayed => rw [takeRequest_of_cached ((controlRoom_iff s).mpr room) cached]

/-! ### What the commands carried out leave alone -/

/-- A command that is answered at once, leaves Reply Cache and Control Queue to the Management Unit, and neither begins nor ends DRAINING. -/
structure PlainRun (run : State → Execution) : Prop where
  cache : ∀ u, (run u).state.replyCache = u.replyCache
  queue : ∀ u, (run u).state.controlQueue = u.controlQueue
  drainTimer : ∀ u, (run u).state.drainTimer = u.drainTimer
  pendingReset : ∀ u, (run u).state.pendingReset = u.pendingReset
  draining : ∀ u, (run u).state.opState = .draining ↔ u.opState = .draining
  answered : ∀ u, (run u).reply.isSome = true
  unawaited : ∀ u, (run u).awaited = false

/-- The parts of the state that requests, replies and DRAINING live in are as before. -/
structure SameDesk (s t : State) : Prop where
  cache : t.replyCache = s.replyCache
  queue : t.controlQueue = s.controlQueue
  drainTimer : t.drainTimer = s.drainTimer
  pendingReset : t.pendingReset = s.pendingReset
  opState : t.opState = s.opState

theorem SameDesk.refl (s : State) : SameDesk s s := ⟨rfl, rfl, rfl, rfl, rfl⟩

theorem SameDesk.trans {s t u : State} (h : SameDesk s t) (h' : SameDesk t u) : SameDesk s u :=
  ⟨h'.cache.trans h.cache, h'.queue.trans h.queue, h'.drainTimer.trans h.drainTimer,
    h'.pendingReset.trans h.pendingReset, h'.opState.trans h.opState⟩

/-- A command that may be refused and else leaves those parts alone. -/
theorem PlainRun.of_answers {run : State → Execution}
    (h : ∀ u, SameDesk u (run u).state ∧ (run u).reply.isSome = true ∧ (run u).awaited = false) : PlainRun run where
  cache u := (h u).1.cache
  queue u := (h u).1.queue
  drainTimer u := (h u).1.drainTimer
  pendingReset u := (h u).1.pendingReset
  draining u := by rw [(h u).1.opState]
  answered u := (h u).2.1
  unawaited u := (h u).2.2

theorem CloseReach.sameDesk {s t : State} (h : CloseReach s t) : SameDesk s t :=
  ⟨(congrArg State.replyCache h :), (congrArg State.controlQueue h :), (congrArg State.drainTimer h :),
    (congrArg State.pendingReset h :), (congrArg State.opState h :)⟩

theorem TrialReach.sameDesk {s t : State} (h : TrialReach s t) : SameDesk s t :=
  ⟨(congrArg State.replyCache h :), (congrArg State.controlQueue h :), (congrArg State.drainTimer h :),
    (congrArg State.pendingReset h :), (congrArg State.opState h :)⟩

theorem PortReach.sameDesk {s t : State} (h : PortReach s t) : SameDesk s t :=
  ⟨(congrArg State.replyCache h :), (congrArg State.controlQueue h :), (congrArg State.drainTimer h :),
    (congrArg State.pendingReset h :), (congrArg State.opState h :)⟩

theorem writeProfile_sameDesk (s : State) (p : Fin 32) (profile : Profile) :
    SameDesk s (tryHeldFor
      (closeProfile { s with profiles := s.profiles.set p.val profile p.isLt } p .profileChanged) p) := by
  have written : SameDesk s { s with profiles := s.profiles.set p.val profile p.isLt } := ⟨rfl, rfl, rfl, rfl, rfl⟩
  exact written.trans ((closeProfile_closeReach _ p .profileChanged).sameDesk.trans (tryHeldFor_reach _ p).sameDesk)

theorem clearGroup_sameDesk (s : State) (g : CounterGroup) : SameDesk s (clearGroup s g) := by
  cases g <;> exact ⟨rfl, rfl, rfl, rfl, rfl⟩

theorem controlPort_plain (u : State) (p : PortNo) (enable : Bool) (rate : BitRate) (maxLen : Byte) :
    (controlPort u p enable rate maxLen).reply.isSome = true
      ∧ (controlPort u p enable rate maxLen).awaited = false := by
  unfold controlPort
  repeat' split
  all_goals exact ⟨rfl, rfl⟩

/-- A request that is answered at once: which command it carries, and what its run leaves alone. QUIESCE and RESET_PART are the two that are more. -/
inductive PlainRequest (c : Instr) : Prop
  | carried (id : Word16) (code : Byte) (run : State → Execution) (plain : PlainRun run)
      (answers : ∀ s, exec c s = command s id code run)

theorem PlainRequest.reading {c : Instr} (id : Word16) (code : Byte) (run : State → Execution)
    (answers : ∀ s, exec c s = command s id code run)
    (reads : ∀ u, (run u).state = u ∧ (run u).reply.isSome = true ∧ (run u).awaited = false) : PlainRequest c := by
  refine .carried id code run (.of_answers fun u => ?_) answers
  obtain ⟨same, rest⟩ := reads u
  refine ⟨?_, rest⟩
  rw [same]
  exact .refl u

/-- Which commands are such requests. -/
def Instr.plainRequest : Instr → Bool
  | .identify _ => true
  | .readStatus _ => true
  | .readSlots _ => true
  | .getConfig _ => true
  | .setConfig _ _ => true
  | .writeMatch _ _ _ => true
  | .readMatch _ _ _ => true
  | .commitMatch _ => true
  | .writeProfile _ _ _ => true
  | .readProfile _ _ => true
  | .readTemplate _ _ => true
  | .flush _ _ => true
  | .resume _ => true
  | .portControl _ _ _ _ _ => true
  | .readPort _ _ => true
  | .readCounters _ _ _ _ _ _ => true
  | _ => false

theorem plainRequest_carried {c : Instr} (h : Instr.plainRequest c = true) : PlainRequest c := by
  cases c with
  | identify id => exact .reading id _ _ (fun _ => rfl) fun _ => ⟨rfl, rfl, rfl⟩
  | readStatus id => exact .reading id _ _ (fun _ => rfl) fun _ => ⟨rfl, rfl, rfl⟩
  | readSlots id => exact .reading id _ _ (fun _ => rfl) fun _ => ⟨rfl, rfl, rfl⟩
  | getConfig id => exact .reading id _ _ (fun _ => rfl) fun _ => ⟨rfl, rfl, rfl⟩
  | readMatch id index bank =>
    refine .reading id _ _ (fun _ => rfl) fun u => ?_
    split <;> exact ⟨rfl, rfl, rfl⟩
  | readProfile id profile =>
    refine .reading id _ _ (fun _ => rfl) fun u => ?_
    split <;> exact ⟨rfl, rfl, rfl⟩
  | readTemplate id template =>
    refine .reading id _ _ (fun _ => rfl) fun u => ?_
    split <;> exact ⟨rfl, rfl, rfl⟩
  | readPort id port =>
    refine .reading id _ _ (fun _ => rfl) fun u => ?_
    split <;> exact ⟨rfl, rfl, rfl⟩
  | setConfig id record =>
    refine .carried id _ _ (.of_answers fun u => ?_) fun _ => rfl
    split
    · exact ⟨.refl _, rfl, rfl⟩
    · split <;> exact ⟨⟨rfl, rfl, rfl, rfl, rfl⟩, rfl, rfl⟩
  | writeMatch id index record =>
    refine .carried id _ _ (.of_answers fun u => ?_) fun _ => rfl
    split <;> exact ⟨⟨rfl, rfl, rfl, rfl, rfl⟩, rfl, rfl⟩
  | commitMatch id => exact .carried id _ _ (.of_answers fun u => ⟨⟨rfl, rfl, rfl, rfl, rfl⟩, rfl, rfl⟩) fun _ => rfl
  | writeProfile id profile record =>
    refine .carried id _ _ (.of_answers fun u => ?_) fun _ => rfl
    split
    · exact ⟨writeProfile_sameDesk u _ _, rfl, rfl⟩
    · exact ⟨.refl _, rfl, rfl⟩
  | flush id profile =>
    refine .carried id _ _ (.of_answers fun u => ?_) fun _ => rfl
    split
    · exact ⟨(closeAll_closeReach u .flush).sameDesk, rfl, rfl⟩
    · split
      · exact ⟨(closeProfile_closeReach u _ .flush).sameDesk, rfl, rfl⟩
      · exact ⟨.refl _, rfl, rfl⟩
  | resume id =>
    refine .carried id codeResume _
      ⟨fun u => ?_, fun u => ?_, fun u => ?_, fun u => ?_, fun u => ?_, fun u => ?_, fun u => ?_⟩ fun _ => rfl
    · split
      exacts [(tryHeld_reach { u with opState := .run }).sameDesk.cache, rfl, rfl]
    · split
      exacts [(tryHeld_reach { u with opState := .run }).sameDesk.queue, rfl, rfl]
    · split
      exacts [(tryHeld_reach { u with opState := .run }).sameDesk.drainTimer, rfl, rfl]
    · split
      exacts [(tryHeld_reach { u with opState := .run }).sameDesk.pendingReset, rfl, rfl]
    · split
      · rename_i quiesced
        have runs : (tryHeld { u with opState := .run }).opState = .run :=
          (tryHeld_reach { u with opState := .run }).sameDesk.opState
        have left : (Execution.done (tryHeld { u with opState := .run }) []).state.opState = .run := runs
        rw [left, quiesced]
        decide
      · rfl
      · rfl
    · split <;> rfl
    · split <;> rfl
  | portControl id port enable bitRate maxLen =>
    refine .carried id _ _ (.of_answers fun u => ?_) fun _ => rfl
    split
    · exact ⟨.refl _, rfl, rfl⟩
    · split
      · exact ⟨(controlPort_portReach u _ _ _ _).sameDesk, controlPort_plain u _ _ _ _⟩
      · exact ⟨.refl _, rfl, rfl⟩
  | readCounters id group port first count clear =>
    refine .carried id _ _ (.of_answers fun u => ?_) fun _ => rfl
    split
    · exact ⟨.refl _, rfl, rfl⟩
    · rename_i g _
      dsimp only
      split
      · refine ⟨?_, rfl, rfl⟩
        change SameDesk u (if clear = 1 then clearGroup u g else u)
        split
        · exact clearGroup_sameDesk u g
        · exact .refl u
      · exact ⟨.refl _, rfl, rfl⟩
  | _ => cases h

/-! ### What a command does to Reply Cache, Control Queue and DRAINING -/

/-- The ways a command other than SYNC, CONTROL_FRAME_START and CARRIER_LOSS deals with Reply Cache, Control Queue, drain timer, operating state and pending reset, unless it resets the part. -/
inductive DeskStep (s t : State) : Prop
  /-- Nothing of it has changed, but that the state may have left RUN or come to it. -/
  | same (cache : t.replyCache = s.replyCache) (queue : t.controlQueue = s.controlQueue)
      (timer : t.drainTimer = s.drainTimer) (pending : t.pendingReset = s.pendingReset)
      (draining : t.opState = .draining ↔ s.opState = .draining)
  /-- A DISPATCH is answered, or a stored reply placed again. -/
  | answered (frame : ControlFrame) (room : s.controlRoom = true) (up : s.link ≠ .offline)
      (kind : ∀ h expected, frame ≠ .syncAck h expected)
      (desk : SameDesk (s.placeControl ⟨frame, false⟩) t)
  /-- A request is carried out and answered. -/
  | executed (reply : MgmtReply) (awaited : Bool) (room : s.controlRoom = true) (up : s.link ≠ .offline)
      (fresh : s.replyCache.find? (fun e => e.id == reply.id) = none)
      (cache : t.replyCache = evictOldestDone s.replyCache ++ [⟨reply.id, reply.code, some reply⟩])
      (queue : t.controlQueue = s.controlQueue ++ [⟨.mgmtReply reply, awaited⟩])
      (timer : t.drainTimer = s.drainTimer) (draining : t.opState = .draining ↔ s.opState = .draining)
      (pending : (awaited = false ∧ t.pendingReset = s.pendingReset)
        ∨ (awaited = true ∧ s.pendingReset = none ∧ t.pendingReset.isSome = true))
  /-- QUIESCE begins DRAINING. -/
  | draining (id : Word16) (code : Byte) (run : s.opState = .run)
      (fresh : s.replyCache.find? (fun e => e.id == id) = none)
      (cache : t.replyCache = evictOldestDone s.replyCache ++ [⟨id, code, none⟩])
      (queue : t.controlQueue = s.controlQueue) (timer : t.drainTimer.isSome = true)
      (drains : t.opState = .draining) (pending : t.pendingReset = s.pendingReset)
  /-- DRAINING ends. -/
  | drained (status : Status) (result : List Byte) (was : s.opState = .draining)
      (desk : SameDesk (endDrain s status result) t)

section Desk

variable {c : Instr} {s t : State}

theorem SameDesk.step (h : SameDesk s t) : DeskStep s t :=
  .same h.cache h.queue h.drainTimer h.pendingReset (by rw [h.opState])

/-- A DeskStep looks only at the desk and the link. -/
theorem DeskStep.congr {t' : State} (h : DeskStep s t) (desk : SameDesk t t') : DeskStep s t' := by
  cases h with
  | same cache queue timer pending draining =>
    exact .same (desk.cache.trans cache) (desk.queue.trans queue) (desk.drainTimer.trans timer)
      (desk.pendingReset.trans pending) (by rw [desk.opState]; exact draining)
  | answered frame room up kind desk' => exact .answered frame room up kind (desk'.trans desk)
  | executed reply awaited room up fresh cache queue timer draining pending =>
    refine .executed reply awaited room up fresh (desk.cache.trans cache) (desk.queue.trans queue)
      (desk.drainTimer.trans timer) (by rw [desk.opState]; exact draining) ?_
    rw [desk.pendingReset]
    exact pending
  | draining id code run fresh cache queue timer drains pending =>
    exact .draining id code run fresh (desk.cache.trans cache) (desk.queue.trans queue)
      (by rw [desk.drainTimer]; exact timer) (desk.opState.trans drains) (desk.pendingReset.trans pending)
  | drained status result was desk' => exact .drained status result was (desk'.trans desk)

theorem DeskStep.live {f : State → State} (answer : live s f = .next t) (h : DeskStep s (f s)) : DeskStep s t :=
  live_keeps (P := DeskStep s) answer (SameDesk.refl s).step h

/-- Behind the gate `received` the link is not OFFLINE (R101 (6)). -/
theorem DeskStep.received {f : State → State} (h : s.link ≠ .offline → DeskStep s (f s)) :
    DeskStep s (received s f) := by
  unfold Machine.received
  split
  · exact (SameDesk.refl s).step
  · split
    · exact .same rfl rfl rfl rfl Iff.rfl
    · rename_i up
      exact h up

theorem countBadLength_desk (s : State) : DeskStep s (countBadLength s) := by
  unfold countBadLength
  split <;> exact .same rfl rfl rfl rfl Iff.rfl

/-- A request that is executed is answered, or begins DRAINING, as its run says. -/
theorem takeRequest_desk {run : State → Execution} (up : s.link ≠ .offline) (id : Word16) (code : Byte)
    (runs : s.controlRoom = true → s.replyCache.find? (fun e => e.id == id) = none →
      DeskStep s (concluded (run (accepted s)) id code)) : DeskStep s (takeRequest s id code run) := by
  cases room : s.controlRoom with
  | false =>
    rw [takeRequest_of_full room]
    exact .same rfl rfl rfl rfl Iff.rfl
  | true =>
    cases cached : s.replyCache.find? (fun e => e.id == id) with
    | none =>
      rw [takeRequest_of_fresh room cached]
      exact runs room cached
    | some e =>
      rw [takeRequest_of_cached room cached]
      cases e.reply with
      | none => exact .same rfl (List.append_nil _) rfl rfl Iff.rfl
      | some r => exact .answered (.mgmtReply r) room up (by intro _ _ h; cases h) ⟨rfl, rfl, rfl, rfl, rfl⟩

theorem PlainRun.desk {run : State → Execution} (plain : PlainRun run) (up : s.link ≠ .offline) (id : Word16)
    (code : Byte) : DeskStep s (takeRequest s id code run) := by
  refine takeRequest_desk up id code fun room fresh => ?_
  obtain ⟨⟨status, result⟩, reply⟩ := Option.isSome_iff_exists.mp (plain.answered (accepted s))
  refine .executed ⟨id, code, status, result⟩ false room up fresh ?_ ?_ (plain.drainTimer (accepted s))
    (plain.draining (accepted s)) (.inl ⟨rfl, plain.pendingReset (accepted s)⟩)
  · simp only [concluded, reply, plain.cache]
    rfl
  · simp only [concluded, reply, plain.queue, plain.unawaited]
    rfl

theorem DeskStep.command {run : State → Execution} {id : Word16} {code : Byte} (answer : command s id code run = .next t)
    (runs : s.link ≠ .offline → DeskStep s (takeRequest s id code run)) : DeskStep s t :=
  .live answer (.received runs)

end Desk

/-! ### The end of DRAINING -/

/-- The Reply Cache once its IN_PROGRESS entry has its reply (R142). -/
def answeredCache (cache : List CacheEntry) (reply : MgmtReply) : List CacheEntry :=
  cache.map fun c => if c.reply.isNone then { c with reply := some reply } else c

/-- The Control Queue once a late reply has been placed, where R142 allows it. -/
def State.lateReply (s : State) (reply : MgmtReply) : List ControlEntry :=
  if s.controlQueue.length ≤ 6 ∧ s.link ≠ .offline then s.controlQueue ++ [⟨.mgmtReply reply, false⟩]
  else s.controlQueue

section EndDrain

variable {s t : State} (status : Status) (result : List Byte)

theorem endDrain_of_none (h : s.replyCache.find? (fun e => e.reply.isNone) = none) :
    endDrain s status result = { s with drainTimer := none, opState := .quiesced } := by
  simp only [endDrain, h]

/-- DRAINING ends with the IN_PROGRESS entry DONE, and its reply placed where R142 allows (R142, R148). -/
theorem endDrain_of_entry {e : CacheEntry} (h : s.replyCache.find? (fun e => e.reply.isNone) = some e) :
    endDrain s status result =
      { s with
        drainTimer := none, opState := .quiesced
        replyCache := answeredCache s.replyCache ⟨e.id, e.code, status, result⟩
        controlQueue := s.lateReply ⟨e.id, e.code, status, result⟩ } := by
  have guard : (s.controlRoom && s.link != .offline) = true ↔ s.controlQueue.length ≤ 6 ∧ s.link ≠ .offline := by
    rw [Bool.and_eq_true, controlRoom_iff, bne_iff_ne]
  have ended : endDrain s status result =
      if (s.controlRoom && s.link != .offline) = true then
        State.placeControl
          { s with
            drainTimer := none, opState := .quiesced
            replyCache := answeredCache s.replyCache ⟨e.id, e.code, status, result⟩ }
          ⟨.mgmtReply ⟨e.id, e.code, status, result⟩, false⟩
      else
        { s with
          drainTimer := none, opState := .quiesced
          replyCache := answeredCache s.replyCache ⟨e.id, e.code, status, result⟩ } := by
    simp only [endDrain, h]
    rfl
  rw [ended, State.lateReply]
  by_cases allowed : s.controlQueue.length ≤ 6 ∧ s.link ≠ .offline
  · rw [if_pos (guard.mpr allowed), if_pos allowed]
    rfl
  · rw [if_neg (guard.not.mpr allowed), if_neg allowed]

/-- How DRAINING ends depends on the desk and the link alone. -/
theorem endDrain_desk (desk : SameDesk s t) (link : t.link = s.link) :
    SameDesk (endDrain s status result) (endDrain t status result) := by
  have cache := desk.cache
  have queue := desk.queue
  cases entry : s.replyCache.find? (fun e => e.reply.isNone) with
  | none =>
    rw [endDrain_of_none status result entry, endDrain_of_none status result (cache ▸ entry)]
    exact ⟨cache, queue, rfl, desk.pendingReset, rfl⟩
  | some e =>
    rw [endDrain_of_entry status result entry, endDrain_of_entry status result (cache ▸ entry)]
    exact ⟨by simp only [cache], by simp only [State.lateReply, queue, link], rfl, desk.pendingReset, rfl⟩

end EndDrain

/-! ### Every command -/

section Every

variable {c : Instr} {s t : State}

/-- A slot that becomes IDLE may end DRAINING, and does nothing else to the desk (R61, R148). -/
theorem slotBecameIdle_desk (desk : SameDesk s t) (link : t.link = s.link) : DeskStep s (slotBecameIdle t) := by
  have opState := desk.opState
  unfold slotBecameIdle
  split
  · exact (desk.trans (tryHeld_reach t).sameDesk).step
  · rename_i draining
    split
    · exact .drained .ok [] (opState.symm.trans draining) (endDrain_desk _ _ desk link)
    · exact desk.step
  · exact desk.step

theorem moveHead_desk (desk : SameDesk s t) (link : t.link = s.link) (cls : BundleClass) :
    DeskStep s (moveHead t cls) := by
  obtain same | ⟨n, rest, b, cause, qc, _, _, moved⟩ := moveHead_cases t cls
  · rw [same]
    exact desk.step
  · rw [moved]
    have vacated : SameDesk t ((vacate t n cls).setQueue cls (t.queue cls ++ [descriptorOf b cause qc])) :=
      ⟨by simp [vacate], by simp [vacate], by simp [vacate], by simp [vacate], by simp [vacate]⟩
    have linked : ((vacate t n cls).setQueue cls (t.queue cls ++ [descriptorOf b cause qc])).link = t.link := by
      simp [vacate]
    exact slotBecameIdle_desk (desk.trans vacated) (linked.trans link)

theorem startFirst_desk (s : State) : DeskStep s (startFirst s) := by
  unfold startFirst
  split
  · split
    · exact (SameDesk.refl s).step
    · rename_i cls _
      cases queue : s.queue cls with
      | nil => rw [startNewBundle_of_empty queue]; exact (SameDesk.refl s).step
      | cons d rest =>
        rw [startNewBundle_of_queue queue]
        have started : SameDesk s (startedBundle s cls d rest) := by
          cases cls <;> exact ⟨rfl, rfl, rfl, rfl, rfl⟩
        exact moveHead_desk started (by cases cls <;> rfl) cls
  · exact (SameDesk.refl s).step

/-- With 7 or 8 frames in the Control Queue a DISPATCH is discarded (R120). -/
theorem takeDispatch_of_full (full : s.controlRoom = false) (seq : Word16) (es : List DispatchEntry) :
    takeDispatch s seq es =
      { s with
        dispatchCounters :=
          { s.dispatchCounters with droppedQueueFull := bump s.dispatchCounters.droppedQueueFull } } := by
  simp [takeDispatch, full]

/-- Else its sequence decides (R120, R121). -/
theorem takeDispatch_of_room (room : s.controlRoom = true) (seq : Word16) (es : List DispatchEntry) :
    takeDispatch s seq es =
      match seqCase s.expectedDispatch seq with
      | .behind =>
        answerAck
          { s with
            dispatchCounters := { s.dispatchCounters with duplicates := bump s.dispatchCounters.duplicates } } seq
      | .ahead =>
        answerNak
          { s with
            dispatchCounters := { s.dispatchCounters with gapRefusals := bump s.dispatchCounters.gapRefusals } }
          .gap 0
      | .equal => takeExpected s seq es := by
  cases h : seqCase s.expectedDispatch seq <;> simp [takeDispatch, room, h]

theorem takeDispatch_desk (up : s.link ≠ .offline) (seq : Word16) (es : List DispatchEntry) :
    DeskStep s (takeDispatch s seq es) := by
  have admitted : ∀ index es u, SameDesk u (admitEntries u seq index es) := by
    intro index es
    induction es generalizing index with
    | nil => exact SameDesk.refl
    | cons e es ih =>
      intro u
      refine SameDesk.trans ?_ (ih _ _)
      unfold admitEntry
      dsimp only
      split
      · exact ⟨rfl, rfl, rfl, rfl, rfl⟩
      · refine SameDesk.trans ?_ (reportUndelivered_reach _ _ _ _).ports.sameDesk
        exact ⟨rfl, rfl, rfl, rfl, rfl⟩
      · refine SameDesk.trans ?_ (reportUndelivered_reach _ _ _ _).ports.sameDesk
        exact ⟨rfl, rfl, rfl, rfl, rfl⟩
  cases room : s.controlRoom with
  | false =>
    rw [takeDispatch_of_full room]
    exact .same rfl rfl rfl rfl Iff.rfl
  | true =>
    rw [takeDispatch_of_room room]
    unfold takeExpected
    split
    · exact .answered _ room up (by intro _ _ h; cases h) ⟨rfl, rfl, rfl, rfl, rfl⟩
    · exact .answered _ room up (by intro _ _ h; cases h) ⟨rfl, rfl, rfl, rfl, rfl⟩
    · split
      · exact .answered _ room up (by intro _ _ h; cases h) ⟨rfl, rfl, rfl, rfl, rfl⟩
      · split
        · have desk := admitted 0 es s
          exact .answered _ room up (by intro _ _ h; cases h)
            ⟨desk.cache, congrArg (· ++ _) desk.queue, desk.drainTimer, desk.pendingReset, desk.opState⟩
        · exact .answered _ room up (by intro _ _ h; cases h) ⟨rfl, rfl, rfl, rfl, rfl⟩

theorem expireDrain_desk (s : State) : DeskStep s (expireDrain s) := by
  unfold expireDrain
  split
  · rename_i draining _
    split
    · have busy : s.opState ≠ .run := by rw [draining]; decide
      have discarded := (discardClosed_reach s)
      dsimp only
      generalize hu : raise (discardClosed s) _ = u
      have reach : TrialReach s u := hu ▸ discarded.trans (raise_reach _ _).build.trial
      exact .drained _ _ draining (endDrain_desk _ _ reach.sameDesk (congrArg State.link reach :))
    · exact (SameDesk.refl s).step
  · exact (SameDesk.refl s).step

theorem quiesce_desk (up : s.link ≠ .offline) (id timeout : Word16) :
    DeskStep s (takeRequest s id codeQuiesce fun s =>
      if timeout.toNat = 0 ∨ 60000 < timeout.toNat then .refuse s .badParam
      else match s.opState with
        | .run => quiesceRun s timeout
        | .quiesced => .done s []
        | .draining => .refuse s .busy) := by
  refine takeRequest_desk up id codeQuiesce fun room fresh => ?_
  have answers (status : Status) : DeskStep s (concluded ⟨accepted s, some (status, []), false⟩ id codeQuiesce) :=
    .executed ⟨id, codeQuiesce, status, []⟩ false room up fresh rfl rfl rfl Iff.rfl (.inl ⟨rfl, rfl⟩)
  split
  · exact answers .badParam
  · split
    · rename_i running
      have running : s.opState = .run := running
      unfold quiesceRun
      split
      · refine .executed ⟨id, codeQuiesce, .ok, []⟩ false room up fresh rfl rfl rfl ?_ (.inl ⟨rfl, rfl⟩)
        exact ⟨nofun, fun h => absurd (running.symm.trans h) (by decide)⟩
      · have closed := (closeAll_closeReach { accepted s with opState := .draining } .quiesce).sameDesk
        refine .draining id codeQuiesce running fresh (congrArg (· ++ _) closed.cache) ?_ rfl closed.opState
          closed.pendingReset
        exact (List.append_nil _).trans closed.queue
    · exact answers .ok
    · exact answers .busy

theorem resetPart_desk (up : s.link ≠ .offline) (id : Word16) (level : Byte) :
    DeskStep s (takeRequest s id codeResetPart fun s =>
      match levelOf level with
      | none => .refuse s .badParam
      | some l =>
        match s.pendingReset with
        | some _ => .refuse s .busy
        | none =>
          ⟨{ s with pendingReset := some ⟨l, s.partTime + Config.resetWait⟩ }, some (.ok, []), true⟩) := by
  refine takeRequest_desk up id codeResetPart fun room fresh => ?_
  split
  · exact .executed ⟨id, codeResetPart, .badParam, []⟩ false room up fresh rfl rfl rfl Iff.rfl (.inl ⟨rfl, rfl⟩)
  · split
    · exact .executed ⟨id, codeResetPart, .busy, []⟩ false room up fresh rfl rfl rfl Iff.rfl (.inl ⟨rfl, rfl⟩)
    · rename_i none
      exact .executed ⟨id, codeResetPart, .ok, []⟩ true room up fresh rfl rfl rfl Iff.rfl (.inr ⟨rfl, none, rfl⟩)

theorem execWriteTemplate_desk (id : Word16) (template length : Byte) (bytes : List Byte)
    (answer : execWriteTemplate id template length bytes s = .next t) : DeskStep s t := by
  unfold execWriteTemplate at answer
  split at answer
  · refine .command answer fun up => PlainRun.desk (.of_answers fun u => ?_) up id codeWriteTemplate
    split <;> exact ⟨⟨rfl, rfl, rfl, rfl, rfl⟩, rfl, rfl⟩
  · exact .live answer (countBadLength_desk s)

theorem execUnknownCommand_desk (id : Word16) (code : Byte) (params : List Byte)
    (answer : execUnknownCommand id code params s = .next t) : DeskStep s t := by
  unfold execUnknownCommand at answer
  split at answer
  · exact .live answer (countBadLength_desk s)
  · split at answer
    · exact .command answer fun up => PlainRun.desk (.of_answers fun u => ⟨.refl u, rfl, rfl⟩) up id code
    · cases answer
      exact (SameDesk.refl _).step

/-- Every command but SYNC, CONTROL_FRAME_START and CARRIER_LOSS, unless it resets the part. -/
theorem exec_desk (answer : exec c s = .next t) (noReset : performsReset c s = false) (sync : c ≠ .sync)
    (start : c ≠ .controlFrameStart) (loss : c ≠ .carrierLoss) : DeskStep s t := by
  by_cases plain : Instr.plainRequest c = true
  · obtain ⟨id, code, run, runs, answers⟩ := plainRequest_carried plain
    exact .command ((answers s).symm.trans answer) fun up => runs.desk up id code
  have touched := exec_touches answer noReset
  have cache := congrArg State.replyCache touched
  have queue := congrArg State.controlQueue touched
  have timer := congrArg State.drainTimer touched
  have pending := congrArg State.pendingReset touched
  have opState := congrArg State.opState touched
  cases c with
  | slotMove cls => exact .live (f := (moveHead · cls)) answer (moveHead_desk (.refl s) rfl cls)
  | firstTransmissionStart => exact .live answer (startFirst_desk s)
  | dispatch seq es =>
    refine .live (f := fun u => if dispatchLengthRule es then received u (takeDispatch · seq es)
      else countBadLength u) answer ?_
    split
    · exact .received fun up => takeDispatch_desk up seq es
    · exact countBadLength_desk s
  | drainTimerExpiry => exact .live answer (expireDrain_desk s)
  | quiesce id timeout => exact .command (id := id) (code := codeQuiesce) answer fun up => quiesce_desk up id timeout
  | resetPart id level => exact .command (id := id) (code := codeResetPart) answer fun up => resetPart_desk up id level
  | writeTemplate id template length bytes => exact execWriteTemplate_desk id template length bytes answer
  | unknownCommand id code params => exact execUnknownCommand_desk id code params answer
  | sync => exact absurd rfl sync
  | controlFrameStart => exact absurd rfl start
  | carrierLoss => exact absurd rfl loss
  | powerOn => cases noReset
  | resetNAsserted => cases noReset
  | _ => first
    | exact absurd rfl plain
    | exact SameDesk.step ⟨cache, queue, timer, pending, opState⟩

end Every

end Sys2Proof.Machine
end

section
/-! Proofs: every step keeps block storage canonical, the Event Queue's numbers consecutive, and one frame waited for by a pending reset (R71, R157, R162, R164). -/

namespace Sys2Proof.Machine

open Safety

/-! ### Block storage -/

theorem storageLaw_wf : StorageLaw fun s => s.blockMem.wf = true where
  blind h mem _ _ := by rwa [mem]
  raised e h := by rwa [(congrArg State.blockMem (raise_reach _ e) :)]
  written chain start bytes h := wf_writeContent h chain start bytes

/-- No reset changes the bytes of block storage (log 9). -/
theorem ResetOf.blockMem {s t : State} (h : ResetOf s t) : t.blockMem = s.blockMem := by
  cases h with
  | ordered _ _ level => cases level <;> rfl
  | held => rfl
  | released => rfl

theorem step_keeps_wf {s t : State} (h : s.blockMem.wf = true) (stepped : step s = .next t) : t.blockMem.wf = true := by
  refine step_keeps (P := fun u => u.blockMem.wf = true) stepped (fun _ _ _ _ hu => hu)
    (fun {c u v} answer noReset hu => ?_) (fun reset hu => reset.blockMem ▸ hu) h
  by_cases start : c = .eventFrameStart
  · subst start
    rwa [congrArg State.blockMem (exec_touches answer noReset)]
  · exact exec_keeps_storageLaw storageLaw_wf answer noReset start hu

/-! ### Event Queue -/

end Sys2Proof.Machine

namespace Sys2Proof.Safety

open Machine

theorem EventsSound.raise {s : State} (h : EventsSound s) (e : Event) : EventsSound (Machine.raise s e) := by
  cases enabled : s.config.enables e with
  | false => rwa [raise_of_masked enabled]
  | true =>
    by_cases room : s.eventQueue.length < Config.eventPlaces
    · rw [raise_of_room enabled room]
      refine ⟨by simp only [List.length_append, List.length_singleton]; omega, fun i r at_i => ?_⟩
      rw [List.length_append, List.length_singleton]
      rw [List.getElem?_append] at at_i
      split at at_i
      · rename_i below
        have numbered := h.numbers i r at_i
        have later : s.eventQueue.length + 1 - i = (s.eventQueue.length - i) + 1 := by omega
        dsimp only
        rw [later, BitVec.ofNat_add, ← BitVec.add_assoc, numbered]
        rfl
      · rename_i above
        obtain ⟨at_end, rfl⟩ : i - s.eventQueue.length = 0 ∧ (⟨e, s.eventNumber, s.partTime⟩ : EventRecord) = r := by
          cases i' : i - s.eventQueue.length with
          | zero => rw [i'] at at_i; exact ⟨rfl, by simpa using at_i⟩
          | succ k => rw [i'] at at_i; simp at at_i
        have last : s.eventQueue.length + 1 - i = 1 := by omega
        rw [last]
        rfl
    · rw [raise_of_full enabled (Nat.le_of_not_lt room)]
      exact ⟨h.places, h.numbers⟩

/-- The frame that starts is the oldest, so the others keep their distance to the next number. -/
theorem EventsSound.startEvent {s : State} (h : EventsSound s) : EventsSound (Machine.startEvent s) := by
  unfold Machine.startEvent
  split
  · exact h
  · rename_i r rest queue
    have places := h.places
    have numbers := h.numbers
    rw [queue] at places numbers
    split
    · refine ⟨Nat.le_trans (Nat.le_succ _) places, fun i r' at_i => ?_⟩
      have numbered := numbers (i + 1) r' at_i
      rwa [List.length_cons, Nat.add_sub_add_right] at numbered
    · exact h

end Sys2Proof.Safety

namespace Sys2Proof.Machine

open Safety

theorem storageLaw_eventsSound : StorageLaw EventsSound where
  blind h _ queue number := by
    refine ⟨by rw [queue]; exact h.places, fun i r at_i => ?_⟩
    rw [queue] at at_i ⊢
    rw [number]
    exact h.numbers i r at_i
  raised e h := h.raise e
  written _ _ _ h := ⟨h.places, h.numbers⟩

theorem ResetOf.eventQueue {s t : State} (h : ResetOf s t) : t.eventQueue = [] := by
  cases h with
  | ordered _ _ level => cases level <;> rfl
  | held => rfl
  | released => rfl

theorem eventsSound_of_empty {s : State} (h : s.eventQueue = []) : EventsSound s := by
  refine ⟨by rw [h]; exact Nat.zero_le _, fun i r at_i => ?_⟩
  rw [h] at at_i
  cases at_i

theorem step_keeps_eventsSound {s t : State} (h : EventsSound s) (stepped : step s = .next t) : EventsSound t := by
  refine step_keeps stepped (fun _ _ _ _ hu => ⟨hu.places, hu.numbers⟩) (fun {c u v} answer noReset hu => ?_)
    (fun reset _ => eventsSound_of_empty reset.eventQueue) h
  by_cases start : c = .eventFrameStart
  · subst start
    exact live_keeps answer hu hu.startEvent
  · exact exec_keeps_storageLaw storageLaw_eventsSound answer noReset start hu

/-! ### The transmission in progress -/

theorem abortTransmission_controlQueue (s : State) : (abortTransmission s).controlQueue = s.controlQueue := by
  unfold abortTransmission
  split
  case h_5 => exact (congrArg State.controlQueue (returnHold_reach { s with tx := none }) :)
  all_goals rfl

/-- CARRIER_LOSS discards the SYNC_ACKs of the Control Queue (R96 (4)). -/
theorem linkDown_controlQueue (s : State) :
    (linkDown s).controlQueue = s.controlQueue.filter fun e => !e.isSyncAck :=
  congrArg (List.filter _) (abortTransmission_controlQueue s)

/-- CARRIER_LOSS ends the transmission in progress (R96 (1)). -/
theorem linkDown_tx (s : State) : (linkDown s).tx = none := by
  change (abortTransmission s).tx = none
  unfold abortTransmission
  split
  case h_1 free => exact free
  case h_5 => exact (congrArg State.tx (returnHold_reach { s with tx := none }) :)
  all_goals rfl

/-- No frame of the Control Queue is in transmission. -/
def State.noControlSent (s : State) : Prop := ∀ e, s.tx ≠ some (.control e)

/-- But for the start and the loss of a control frame, a command keeps the transmission, or it and the one before are none of a control frame; a completed control frame is the one other case. -/
theorem exec_tx {c : Instr} {s t : State} (answer : exec c s = .next t) (noReset : performsReset c s = false)
    (start : c ≠ .controlFrameStart) (loss : c ≠ .carrierLoss) :
    t.tx = s.tx ∨ t.noControlSent ∧ (s.noControlSent ∨ c = .controlFrameComplete ∧ s.held = false) := by
  have touched := congrArg State.tx (exec_touches answer noReset)
  have gated (f : State → State) (answer : live s f = .next t)
      (h : (f s).tx = s.tx ∨ (f s).noControlSent ∧ s.noControlSent) :
      t.tx = s.tx ∨ t.noControlSent ∧ (s.noControlSent ∨ c = .controlFrameComplete ∧ s.held = false) :=
    live_keeps (P := fun u => u.tx = s.tx ∨ u.noControlSent ∧ (s.noControlSent ∨ c = .controlFrameComplete ∧ s.held = false))
      answer (.inl rfl) (h.imp_right (And.imp_right .inl))
  have idle {u : State} (h : u.tx = none) : u.noControlSent := fun e sent => nomatch h.symm.trans sent
  have sends {u : State} {f : BundleTx} (h : u.tx = some (.bundle f)) : u.noControlSent :=
    fun e sent => nomatch h.symm.trans sent
  have turn {u : State} (h : u.bundleTurn = true) : u.noControlSent := by
    simp only [State.bundleTurn, Bool.and_eq_true, Option.isNone_iff_eq_none] at h
    exact idle h.1.1.1
  cases c with
  | helloStart =>
    refine gated _ answer ?_
    unfold startHello
    split
    · rename_i free
      exact .inr ⟨(fun e sent => nomatch sent), idle free.1⟩
    · exact .inl rfl
  | helloComplete =>
    refine gated _ answer ?_
    unfold completeHello
    split
    · rename_i sending
      exact .inr ⟨idle rfl, fun e sent => nomatch sending.symm.trans sent⟩
    · exact .inl rfl
  | controlFrameComplete =>
    cases held : s.held with
    | true =>
      cases (congrArg Host.Outcome.next (if_pos held : (if s.held then s else completeControl s) = s)).symm.trans answer
      exact .inl rfl
    | false =>
      rw [exec_controlFrameComplete_of_working held] at answer
      cases answer
      have noReset : (s.awaitedStarted && s.pendingReset.isSome) = false := by
        simpa [performsReset, held] using noReset
      unfold completeControl
      split
      · rename_i e sending
        rw [State.awaitedStarted_of_control sending] at noReset
        rw [controlEnded_of_no_reset (s := { s with tx := none }) noReset]
        exact .inr ⟨idle rfl, .inr ⟨rfl, rfl⟩⟩
      · exact .inl rfl
  | eventFrameStart =>
    refine gated _ answer ?_
    unfold startEvent
    split
    · exact .inl rfl
    · split
      · rename_i free
        exact .inr ⟨(fun e sent => nomatch sent), idle free.1⟩
      · exact .inl rfl
  | eventFrameComplete =>
    refine gated _ answer ?_
    unfold completeEvent
    split
    · rename_i sending
      exact .inr ⟨idle rfl, fun e sent => nomatch sending.symm.trans sent⟩
    · exact .inl rfl
  | firstTransmissionStart =>
    refine gated _ answer ?_
    unfold startFirst
    split
    · rename_i may
      split
      · exact .inl rfl
      · rename_i cls _
        cases queue : s.queue cls with
        | nil => exact .inl (congrArg State.tx (startNewBundle_of_empty queue))
        | cons d rest =>
          rw [startNewBundle_of_queue queue]
          have moved : (moveHead (startedBundle s cls d rest) cls).tx = (startedBundle s cls d rest).tx :=
            (congrArg State.tx (moveHead_reach _ _) :)
          exact .inr ⟨sends moved, turn may.1⟩
    · exact .inl rfl
  | retransmissionStart =>
    refine gated _ answer ?_
    unfold startRetransmission
    split
    · exact .inl rfl
    · split
      · rename_i may
        exact .inr ⟨sends rfl, turn may.1⟩
      · exact .inl rfl
  | bundleTransmissionComplete =>
    refine gated _ answer ?_
    unfold completeBundle
    split
    · rename_i f sending
      refine .inr ⟨?_, fun e sent => nomatch sending.symm.trans sent⟩
      split
      · exact idle (congrArg State.tx (returnHold_reach { s with tx := none }) :)
      · exact idle rfl
    · exact .inl rfl
  | controlFrameStart => exact absurd rfl start
  | carrierLoss => exact absurd rfl loss
  | powerOn => cases noReset
  | resetNAsserted => cases noReset
  | _ => exact .inl touched

/-! ### The frame that a pending reset waits for -/

section Waits

variable {c : Instr} {s t : State}

theorem awaitedInTx_of_tx (h : t.tx = s.tx) : awaitedInTx t = awaitedInTx s := by
  unfold awaitedInTx State.awaitedStarted
  rw [h]

theorem awaitedInTx_of_noControlSent (h : s.noControlSent) : awaitedInTx s = 0 := by
  cases started : s.awaitedStarted with
  | false => simp [awaitedInTx, started]
  | true =>
    obtain ⟨e, sent, _⟩ := (awaitedStarted_iff s).mp started
    exact absurd sent (h e)

/-- What the transmission is to the law: it is as it was, or neither one is of a frame waited for. -/
structure SameWait (s t : State) : Prop where
  count : awaitedInTx t = awaitedInTx s
  started : ∀ e, t.tx = some (.control e) → s.tx = t.tx

theorem SameWait.of_tx (h : t.tx = s.tx) : SameWait s t := ⟨awaitedInTx_of_tx h, fun _ _ => h.symm⟩

theorem SameWait.of_none (sent : s.awaitedStarted = false) (sends : t.noControlSent) : SameWait s t where
  count := by
    rw [awaitedInTx_of_noControlSent sends]
    simp [awaitedInTx, sent]
  started e sent := absurd sent (sends e)

theorem isSyncAck_of_mgmtReply {e : ControlEntry} {r : MgmtReply} (h : e.frame = .mgmtReply r) :
    e.isSyncAck = false := by
  unfold ControlEntry.isSyncAck
  rw [h]

theorem ResetOf.idleDesk (h : ResetOf s t) : t.controlQueue = [] ∧ t.tx = none ∧ t.pendingReset = none := by
  cases h with
  | ordered _ _ level => cases level <;> exact ⟨rfl, rfl, rfl⟩
  | held => exact ⟨rfl, rfl, rfl⟩
  | released => exact ⟨rfl, rfl, rfl⟩

end Waits

end Sys2Proof.Machine

namespace Sys2Proof.Safety

open Machine

section Waits

variable {c : Instr} {s t : State}

/-- The number of frames waited for, and the kinds of those that are: what the law of the pending reset looks at. -/
theorem PendingResetSound.of_counts (h : PendingResetSound s) (pending : t.pendingReset = s.pendingReset)
    (count : t.controlQueue.countP ControlEntry.awaited + awaitedInTx t
      = s.controlQueue.countP ControlEntry.awaited + awaitedInTx s)
    (waits : ∀ e ∈ t.controlQueue, e.awaited = true → e ∈ s.controlQueue)
    (started : ∀ e, t.tx = some (.control e) → s.tx = t.tx ∨ e ∈ s.controlQueue) : PendingResetSound t where
  one := by rw [count, pending]; exact h.one
  waits e queued awaited := h.waits e (waits e queued awaited) awaited
  started e sent awaited := by
    obtain same | queued := started e sent
    · exact h.started e (same.trans sent) awaited
    · exact h.waits e queued awaited

theorem PendingResetSound.same (h : PendingResetSound s) (wait : SameWait s t)
    (queue : t.controlQueue = s.controlQueue) (pending : t.pendingReset = s.pendingReset) : PendingResetSound t :=
  h.of_counts pending (by rw [queue, wait.count]) (fun e queued _ => queue ▸ queued)
    fun e sent => .inl (wait.started e sent)

/-- A frame joins the Control Queue: one that no reset waits for, or the reply of the reset that becomes pending. -/
theorem PendingResetSound.placed (h : PendingResetSound s) (wait : SameWait s t) (e : ControlEntry)
    (queue : t.controlQueue = s.controlQueue ++ [e]) (reply : e.awaited = true → ∃ r, e.frame = .mgmtReply r)
    (pending : e.awaited = false ∧ t.pendingReset = s.pendingReset
      ∨ e.awaited = true ∧ s.pendingReset = none ∧ t.pendingReset.isSome = true) : PendingResetSound t where
  one := by
    have one := h.one
    rw [queue, List.countP_append, List.countP_singleton, wait.count]
    obtain ⟨plain, same⟩ | ⟨awaits, none, some⟩ := pending
    · simpa [plain, same] using one
    · simp only [awaits, if_true, some]
      rw [none] at one
      simp only [Option.isSome_none, Bool.false_eq_true, if_false] at one
      omega
  waits e' queued awaited := by
    rw [queue, List.mem_append, List.mem_singleton] at queued
    obtain queued | rfl := queued
    · exact h.waits e' queued awaited
    · exact reply awaited
  started e' sent awaited := h.started e' ((wait.started e' sent).trans sent) awaited

theorem PendingResetSound.desk (h : PendingResetSound s) (wait : SameWait s t) (desk : DeskStep s t) :
    PendingResetSound t := by
  cases desk with
  | same _ queue _ pending _ => exact h.same wait queue pending
  | answered frame _ _ _ desk =>
    exact h.placed wait ⟨frame, false⟩ desk.queue nofun (.inl ⟨rfl, desk.pendingReset⟩)
  | executed reply awaited _ _ _ _ queue _ _ pending =>
    exact h.placed wait ⟨.mgmtReply reply, awaited⟩ queue (fun _ => ⟨reply, rfl⟩) pending
  | draining _ _ _ _ _ queue _ _ pending => exact h.same wait queue pending
  | drained status result _ desk =>
    cases entry : s.replyCache.find? (fun e => e.reply.isNone) with
    | none =>
      rw [endDrain_of_none status result entry] at desk
      exact h.same wait desk.queue desk.pendingReset
    | some e =>
      rw [endDrain_of_entry status result entry] at desk
      by_cases allowed : s.controlQueue.length ≤ 6 ∧ s.link ≠ .offline
      · exact h.placed wait ⟨.mgmtReply ⟨e.id, e.code, status, result⟩, false⟩
          (desk.queue.trans (if_pos allowed)) nofun (.inl ⟨rfl, desk.pendingReset⟩)
      · exact h.same wait (desk.queue.trans (if_neg allowed)) desk.pendingReset

/-- The head of the Control Queue goes into transmission, and is waited for as before. -/
theorem PendingResetSound.startControl (h : PendingResetSound s) : PendingResetSound (Machine.startControl s) := by
  unfold Machine.startControl
  split
  · exact h
  · rename_i e rest queue
    split
    · rename_i free
      have before : awaitedInTx s = 0 := awaitedInTx_of_noControlSent fun e sent => nomatch free.1.symm.trans sent
      refine h.of_counts rfl ?_ (fun e queued _ => queue ▸ List.mem_cons_of_mem _ queued) ?_
      · rw [queue, before, List.countP_cons]
        rfl
      · rintro e' sent
        cases sent
        exact .inr (queue ▸ List.mem_cons_self)
    · exact h

/-- The link goes down while no frame in transmission is waited for: SYNC_ACKs leave, and none of them is. -/
theorem PendingResetSound.linkDown (h : PendingResetSound s) (sent : s.awaitedStarted = false) :
    PendingResetSound (Machine.linkDown s) := by
  have queue := linkDown_controlQueue s
  have ended := linkDown_tx s
  have wait : SameWait s (Machine.linkDown s) := .of_none sent fun e starts => nomatch ended.symm.trans starts
  refine h.of_counts (congrArg State.pendingReset (linkDown_touches s) :) ?_ ?_ fun e sent => .inl (wait.started e sent)
  · rw [queue, wait.count, List.countP_filter]
    refine congrArg (· + _) (List.countP_congr fun e queued => ?_)
    simp only [Bool.and_eq_true, Bool.not_eq_true']
    refine ⟨And.left, fun awaited => ⟨awaited, ?_⟩⟩
    obtain ⟨r, reply⟩ := h.waits e queued awaited
    exact isSyncAck_of_mgmtReply reply
  · intro e queued _
    rw [queue] at queued
    exact List.mem_of_mem_filter queued

theorem PendingResetSound.takeSync (h : PendingResetSound s) : PendingResetSound (Machine.takeSync s) := by
  have wait : SameWait s (Machine.takeSync s) := .of_tx (congrArg State.tx (takeSync_touches s) :)
  have pending : (Machine.takeSync s).pendingReset = s.pendingReset :=
    (congrArg State.pendingReset (takeSync_touches s) :)
  have queue : (Machine.takeSync s).controlQueue = s.controlQueue
      ∨ (Machine.takeSync s).controlQueue = s.controlQueue ++ [⟨.syncAck s.helloFields s.expectedDispatch, false⟩] := by
    unfold Machine.takeSync
    split
    · exact .inl rfl
    · split
      · exact .inl rfl
      · dsimp only
        split
        · exact .inr (congrArg State.controlQueue (raise_reach _ _) :)
        · exact .inr rfl
  obtain same | placed := queue
  · exact h.same wait same pending
  · exact h.placed wait _ placed nofun (.inl ⟨rfl, pending⟩)

/-- Where no reset is performed and a control frame ends, that frame was not waited for. -/
theorem PendingResetSound.not_awaited (h : PendingResetSound s) (noReset : (s.awaitedStarted && s.pendingReset.isSome) = false) :
    s.awaitedStarted = false := by
  cases sent : s.awaitedStarted with
  | false => rfl
  | true =>
    have none : s.pendingReset.isSome = false := by simpa [sent] using noReset
    have one := h.one
    simp [awaitedInTx, sent, none] at one

theorem PendingResetSound.exec (h : PendingResetSound s) (answer : Machine.exec c s = .next t)
    (noReset : performsReset c s = false) : PendingResetSound t := by
  by_cases start : c = .controlFrameStart
  · subst start
    exact live_keeps answer h h.startControl
  by_cases sync : c = .sync
  · subst sync
    exact live_keeps answer h h.takeSync
  by_cases loss : c = .carrierLoss
  · subst loss
    cases carrier : s.carrier with
    | false =>
      have stays : Machine.exec .carrierLoss s = .next s := congrArg Host.Outcome.next (by simp [carrier])
      cases stays.symm.trans answer
      exact h
    | true =>
      cases held : s.held with
      | true =>
        have stays : Machine.exec .carrierLoss s = .next { s with carrier := false } :=
          congrArg Host.Outcome.next (by simp [carrier, held])
        cases stays.symm.trans answer
        exact h.same (.of_tx rfl) rfl rfl
      | false =>
        have noReset : (s.awaitedStarted && s.pendingReset.isSome) = false := by
          simpa [performsReset, carrier, held] using noReset
        rw [exec_carrierLoss_of_working held carrier, loseCarrier_of_no_reset noReset] at answer
        cases answer
        exact h.linkDown (h.not_awaited noReset)
  have wait : SameWait s t := by
    obtain same | ⟨after, before | ⟨rfl, working⟩⟩ := exec_tx answer noReset start loss
    · exact .of_tx same
    · refine .of_none ?_ after
      have none := awaitedInTx_of_noControlSent before
      simpa [awaitedInTx] using none
    · exact .of_none (h.not_awaited (by simpa [performsReset, working] using noReset)) after
  exact h.desk wait (exec_desk answer noReset sync start loss)

theorem pendingResetSound_of_idle (h : s.controlQueue = [] ∧ s.tx = none ∧ s.pendingReset = none) :
    PendingResetSound s := by
  obtain ⟨queue, sent, pending⟩ := h
  refine ⟨?_, fun e queued => ?_, fun e starts => nomatch sent.symm.trans starts⟩
  · rw [queue, pending, awaitedInTx_of_noControlSent fun e starts => nomatch sent.symm.trans starts]
    rfl
  · rw [queue] at queued
    cases queued

theorem step_keeps_pendingResetSound (h : PendingResetSound s) (stepped : step s = .next t) : PendingResetSound t :=
  step_keeps stepped (fun _ _ _ _ hu => hu.same (.of_tx rfl) rfl rfl) (fun answer noReset hu => hu.exec answer noReset)
    (fun reset _ => pendingResetSound_of_idle reset.idleDesk) h

end Waits

end Sys2Proof.Safety

namespace Sys2Proof.Machine

open Safety

/-- Settles O8: block storage and events by a law of every write and every raise, the pending reset by what a command does to the desk and to the transmission. -/
theorem stepKeepsMemoryEventsAndPendingReset : Obligations.StepKeepsMemoryEventsAndPendingReset :=
  ⟨fun _ _ => step_keeps_wf, fun _ _ => step_keeps_eventsSound, fun _ _ => step_keeps_pendingResetSound⟩

end Sys2Proof.Machine
end

section
/-! Proofs: every step keeps the Reply Cache, and the link with its HELLO timer and Control Queue, sound (R95 to R97, R105, R139 to R142, R148). -/

namespace Sys2Proof.Machine

open Safety

/-! ### The Reply Cache -/

theorem isSome_eq_not_inProgress (e : CacheEntry) : e.reply.isSome = !inProgress e := by
  unfold inProgress
  cases e.reply <;> rfl

/-- Where at most one of the entries is IN_PROGRESS, a full cache gives up a DONE entry, and a cache with room stays (R141). -/
theorem evictOldestDone_cases {cache : List CacheEntry} (progress : cache.countP inProgress ≤ 1) :
    cache.length < Config.cachePlaces ∧ evictOldestDone cache = cache
      ∨ ∃ older e later, inProgress e = false ∧ cache = older ++ e :: later ∧ evictOldestDone cache = older ++ later := by
  by_cases room : cache.length < Config.cachePlaces
  · exact .inl ⟨room, if_pos room⟩
  · obtain ⟨e, cached, done⟩ : ∃ e ∈ cache, e.reply.isSome = true := by
      by_contra none
      have all : ∀ e ∈ cache, inProgress e = true := fun e cached => by
        have := not_exists.mp none e
        rw [isSome_eq_not_inProgress] at this
        simpa [cached] using this
      have := List.countP_eq_length.mpr all
      simp only [Config.cachePlaces] at room
      omega
    obtain ⟨e', older, later, _, done', split, erased⟩ := List.exists_of_eraseP (p := fun x => x.reply.isSome) cached done
    rw [isSome_eq_not_inProgress, Bool.not_eq_true'] at done'
    exact .inr ⟨older, e', later, done', split, (if_neg room).trans erased⟩

theorem evictOldestDone_length {cache : List CacheEntry} (places : cache.length ≤ Config.cachePlaces)
    (progress : cache.countP inProgress ≤ 1) : (evictOldestDone cache).length < Config.cachePlaces := by
  obtain ⟨room, same⟩ | ⟨older, e, later, _, split, erased⟩ := evictOldestDone_cases progress
  · rwa [same]
  · rw [split, List.length_append, List.length_cons] at places
    rw [erased, List.length_append]
    omega

theorem evictOldestDone_sublist (cache : List CacheEntry) : (evictOldestDone cache).Sublist cache := by
  unfold evictOldestDone
  split
  · exact .refl _
  · exact List.eraseP_sublist

theorem evictOldestDone_countP {cache : List CacheEntry} (progress : cache.countP inProgress ≤ 1) :
    (evictOldestDone cache).countP inProgress = cache.countP inProgress := by
  obtain ⟨_, same⟩ | ⟨older, e, later, done, split, erased⟩ := evictOldestDone_cases progress
  · rw [same]
  · rw [erased, split, List.countP_append, List.countP_append, List.countP_cons, done]
    rfl

/-- The entry that waits for its reply is DONE with it; every other entry stays (R142). -/
theorem answeredCache_ids (cache : List CacheEntry) (reply : MgmtReply) :
    (answeredCache cache reply).map CacheEntry.id = cache.map CacheEntry.id := by
  rw [answeredCache, List.map_map]
  refine List.map_congr_left fun e _ => ?_
  simp only [Function.comp_apply]
  split <;> rfl

theorem answeredCache_done (cache : List CacheEntry) (reply : MgmtReply) :
    (answeredCache cache reply).countP inProgress = 0 := by
  rw [List.countP_eq_zero]
  intro e answered
  rw [answeredCache, List.mem_map] at answered
  obtain ⟨e', _, rfl⟩ := answered
  split
  · simp [inProgress]
  · rename_i done
    exact done

end Sys2Proof.Machine

namespace Sys2Proof.Safety

open Machine

section Cache

variable {s t : State}

theorem CacheSound.progress_le (h : CacheSound s) : s.replyCache.countP inProgress ≤ 1 := by
  rw [h.progress]
  split <;> omega

theorem CacheSound.same (h : CacheSound s) (cache : t.replyCache = s.replyCache) (timer : t.drainTimer = s.drainTimer)
    (draining : t.opState = .draining ↔ s.opState = .draining) : CacheSound t where
  places := by rw [cache]; exact h.places
  distinct := by rw [cache]; exact h.distinct
  progress := by rw [cache, h.progress]; simp only [draining]
  stored := by rw [cache]; exact h.stored
  drainTimer := by rw [timer, draining]; exact h.drainTimer

/-- The Reply Cache with the entry of a fresh request at its tail. -/
theorem CacheSound.entered (h : CacheSound s) (e : CacheEntry)
    (fresh : s.replyCache.find? (fun x => x.id == e.id) = none)
    (cache : t.replyCache = evictOldestDone s.replyCache ++ [e])
    (reply : ∀ r, e.reply = some r → r.id = e.id ∧ r.code = e.code)
    (progress : s.replyCache.countP inProgress + [e].countP inProgress = if t.opState = .draining then 1 else 0)
    (timer : t.drainTimer.isSome = true ↔ t.opState = .draining) : CacheSound t where
  places := by
    have := evictOldestDone_length h.places h.progress_le
    rw [cache, List.length_append, List.length_singleton]
    omega
  distinct := by
    rw [cache, List.map_append, List.map_singleton, List.nodup_append]
    refine ⟨h.distinct.sublist ((evictOldestDone_sublist _).map _), List.nodup_singleton _, ?_⟩
    rintro id cached _ new rfl
    obtain ⟨x, cached, same⟩ := List.mem_map.mp cached
    rw [List.mem_singleton] at new
    have other := List.find?_eq_none.mp fresh x ((evictOldestDone_sublist _).subset cached)
    simp [same, new] at other
  progress := by
    rw [cache, List.countP_append, evictOldestDone_countP h.progress_le]
    exact progress
  stored x cached r stored := by
    rw [cache, List.mem_append, List.mem_singleton] at cached
    obtain cached | rfl := cached
    · exact h.stored x ((evictOldestDone_sublist _).subset cached) r stored
    · exact reply r stored
  drainTimer := timer

/-- In DRAINING the cache holds the entry that waits for the reply of QUIESCE. -/
theorem CacheSound.waiting (h : CacheSound s) (draining : s.opState = .draining) :
    ∃ e, s.replyCache.find? (fun e => e.reply.isNone) = some e ∧ e ∈ s.replyCache ∧ inProgress e = true := by
  have one := h.progress
  rw [if_pos draining] at one
  obtain ⟨e, cached, waits⟩ := List.countP_pos_iff.mp (one ▸ Nat.one_pos : 0 < s.replyCache.countP inProgress)
  obtain ⟨e', found⟩ := Option.isSome_iff_exists.mp (List.find?_isSome.mpr ⟨e, cached, waits⟩)
  exact ⟨e', found, List.mem_of_find?_eq_some found, List.find?_some found⟩

/-- Ids are distinct and one entry alone waits, so it is the one found. -/
theorem CacheSound.waiting_unique (h : CacheSound s) {e e' : CacheEntry} (cached : e ∈ s.replyCache)
    (cached' : e' ∈ s.replyCache) (waits : inProgress e = true) (waits' : inProgress e' = true) : e = e' := by
  have le : (s.replyCache.filter inProgress).length ≤ 1 := by
    rw [← List.countP_eq_length_filter]
    exact h.progress_le
  have mem := List.mem_filter.mpr ⟨cached, waits⟩
  have mem' := List.mem_filter.mpr ⟨cached', waits'⟩
  match waiting : s.replyCache.filter inProgress, le with
  | [], _ => rw [waiting] at mem; cases mem
  | [x], _ =>
    rw [waiting, List.mem_singleton] at mem mem'
    rw [mem, mem']

theorem CacheSound.drained (h : CacheSound s) (draining : s.opState = .draining) (status : Status) (result : List Byte) :
    CacheSound (endDrain s status result) := by
  obtain ⟨e, found, cached, waits⟩ := h.waiting draining
  rw [endDrain_of_entry status result found]
  refine ⟨?_, ?_, answeredCache_done _ _, ?_, by simp⟩
  · rw [answeredCache, List.length_map]
    exact h.places
  · change ((answeredCache s.replyCache _).map CacheEntry.id).Nodup
    rw [answeredCache_ids]
    exact h.distinct
  · intro x answered r stored
    rw [answeredCache, List.mem_map] at answered
    obtain ⟨y, cachedY, rfl⟩ := answered
    split at stored
    · rename_i waitsY
      cases h.waiting_unique cachedY cached waitsY waits
      cases stored
      rw [if_pos waitsY]
      exact ⟨rfl, rfl⟩
    · rename_i done
      rw [if_neg done]
      exact h.stored y cachedY r stored

theorem CacheSound.desk (h : CacheSound s) (desk : DeskStep s t) : CacheSound t := by
  cases desk with
  | same cache _ timer _ draining => exact h.same cache timer draining
  | answered _ _ _ _ desk => exact h.same desk.cache desk.drainTimer (by rw [desk.opState]; rfl)
  | executed reply _ _ _ fresh cache _ timer draining _ =>
    refine h.entered ⟨reply.id, reply.code, some reply⟩ fresh cache ?_ ?_ ?_
    · rintro _ ⟨⟩
      exact ⟨rfl, rfl⟩
    · have progress := h.progress
      simp only [draining]
      simpa [inProgress] using progress
    · rw [timer, draining]
      exact h.drainTimer
  | draining id code run fresh cache _ timer drains _ =>
    refine h.entered ⟨id, code, none⟩ fresh cache nofun ?_ ?_
    · have progress := h.progress
      rw [if_neg (by rw [run]; decide)] at progress
      rw [progress, if_pos drains]
      rfl
    · exact iff_of_true timer drains
  | drained status result was desk =>
    exact (h.drained was status result).same desk.cache desk.drainTimer (by rw [desk.opState])

theorem CacheSound.exec {c : Instr} (h : CacheSound s) (answer : Machine.exec c s = .next t)
    (noReset : performsReset c s = false) : CacheSound t := by
  have touched := exec_touches answer noReset
  have cache := congrArg State.replyCache touched
  have timer := congrArg State.drainTimer touched
  have opState := congrArg State.opState touched
  by_cases other : c ≠ .sync ∧ c ≠ .controlFrameStart ∧ c ≠ .carrierLoss
  · exact h.desk (exec_desk answer noReset other.1 other.2.1 other.2.2)
  · obtain rfl | rfl | rfl : c = .sync ∨ c = .controlFrameStart ∨ c = .carrierLoss := by
      by_contra none
      exact other ⟨fun h => none (.inl h), fun h => none (.inr (.inl h)), fun h => none (.inr (.inr h))⟩
    all_goals exact h.same cache timer (by rw [opState]; rfl)

theorem cacheSound_of_empty (cache : s.replyCache = []) (timer : s.drainTimer = none) (quiesced : s.opState = .quiesced) :
    CacheSound s := by
  refine ⟨?_, ?_, ?_, ?_, ?_⟩ <;> simp [cache, timer, quiesced]

end Cache

end Sys2Proof.Safety

namespace Sys2Proof.Machine

open Safety

theorem ResetOf.cacheSound {s t : State} (h : ResetOf s t) : CacheSound t := by
  cases h with
  | ordered _ _ level => cases level <;> exact cacheSound_of_empty rfl rfl rfl
  | held => exact cacheSound_of_empty rfl rfl rfl
  | released => exact cacheSound_of_empty rfl rfl rfl

/-- Settles O16: each way a command deals with the desk keeps the Reply Cache sound. -/
theorem stepKeepsReplyCache : Obligations.StepKeepsReplyCache := fun _ _ h stepped =>
  step_keeps stepped (fun _ _ _ _ hu => hu.same rfl rfl Iff.rfl) (fun answer noReset hu => hu.exec answer noReset)
    (fun reset _ => reset.cacheSound) h

/-! ### The link -/

/-- A SYNC without carrier is not heard (R98). -/
theorem takeSync_of_no_carrier {s : State} (carrier : s.carrier = false) : takeSync s = s :=
  if_pos (by rw [carrier]; rfl)

/-- What entry to STALLED changes before LINK_STALLED is raised (R114). -/
def stopped (s : State) : State :=
  { s with
    link := .stalled, retransmitPtr := none, ackTimer := none
    trunk := { s.trunk with stalls := bump s.trunk.stalls } }

theorem stall_eq (s : State) :
    stall s = match s.retention with
      | [] => stopped s
      | e :: _ => raise (stopped s) (.linkStalled e.seq e.retry) := by
  rfl

theorem stall_link (s : State) : (stall s).link = .stalled := by
  rw [stall_eq]
  split
  · rfl
  · exact (congrArg State.link (raise_reach (stopped s) _) :)

/-- The retry check does nothing, or it stalls a link that is UP (R108). -/
theorem retryCheck_cases (s : State) : retryCheck s = s ∨ s.link = .up ∧ retryCheck s = stall s := by
  unfold retryCheck
  split
  · exact .inl rfl
  · split
    · rename_i may
      simp only [State.bundleTurn, Bool.and_eq_true, beq_iff_eq] at may
      exact .inr ⟨may.1.1.1.2, rfl⟩
    · exact .inl rfl

/-- The expiry of the ack timer does nothing, stalls the link, or goes back to the oldest retained bundle (R110). -/
theorem expireAck_cases (s : State) :
    expireAck s = s
      ∨ ∃ d e rest, s.ackTimer = some d ∧ s.retention = e :: rest
        ∧ (expireAck s = stall s ∧ s.config.retryLimit.toNat ≤ e.retry
          ∨ expireAck s = { s with retransmitPtr := some e.seq, ackTimer := none }
            ∧ e.retry < s.config.retryLimit.toNat) := by
  unfold expireAck
  split
  · rename_i d e rest timer retained
    split
    · split
      · rename_i limit
        exact .inr ⟨d, e, rest, timer, retained, .inl ⟨rfl, limit⟩⟩
      · rename_i below
        exact .inr ⟨d, e, rest, timer, retained, .inr ⟨rfl, Nat.lt_of_not_le below⟩⟩
    · exact .inl rfl
  · exact .inl rfl

theorem controlRoom_places {s : State} (room : s.controlRoom = true) : s.controlQueue.length < Config.controlShared :=
  Nat.lt_succ_of_le ((controlRoom_iff s).mp room)

/-- In OFFLINE no command but HELLO_START and CARRIER_LOSS puts a frame in transmission. -/
theorem exec_tx_offline {c : Instr} {s t : State} (answer : exec c s = .next t) (noReset : performsReset c s = false)
    (start : c ≠ .helloStart) (loss : c ≠ .carrierLoss) (offline : s.link = .offline)
    (noControl : s.noControlSent) : t.tx = s.tx ∨ t.tx = none := by
  have touched := congrArg State.tx (exec_touches answer noReset)
  have gated {f : State → State} (answer : live s f = .next t) (h : (f s).tx = s.tx ∨ (f s).tx = none) :
      t.tx = s.tx ∨ t.tx = none :=
    live_keeps (P := fun u => u.tx = s.tx ∨ u.tx = none) answer (.inl rfl) h
  have carries : s.linkCarries ≠ true := by simp [State.linkCarries, offline]
  have turn : s.bundleTurn ≠ true := by simp [State.bundleTurn, offline]
  cases c with
  | helloComplete =>
    refine gated answer ?_
    unfold completeHello
    split
    exacts [.inr rfl, .inl rfl]
  | controlFrameStart =>
    refine gated answer (.inl ?_)
    unfold startControl
    split
    · rfl
    · rw [if_neg fun may => carries may.2]
  | controlFrameComplete =>
    refine gated answer (.inl ?_)
    unfold completeControl
    split
    · rename_i e sent
      exact absurd sent (noControl e)
    · rfl
  | eventFrameStart =>
    refine gated answer (.inl ?_)
    unfold startEvent
    split
    · rfl
    · rw [if_neg fun may => carries may.2.1]
  | eventFrameComplete =>
    refine gated answer ?_
    unfold completeEvent
    split
    exacts [.inr rfl, .inl rfl]
  | firstTransmissionStart =>
    refine gated answer (.inl ?_)
    unfold startFirst
    rw [if_neg fun may => turn may.1]
  | retransmissionStart =>
    refine gated answer (.inl ?_)
    unfold startRetransmission
    split
    · rfl
    · rw [if_neg fun may => turn may.1]
  | bundleTransmissionComplete =>
    refine gated answer ?_
    unfold completeBundle
    split
    · refine .inr ?_
      split
      · exact (congrArg State.tx (returnHold_reach { s with tx := none }) :)
      · rfl
    · exact .inl rfl
  | helloStart => exact absurd rfl start
  | carrierLoss => exact absurd rfl loss
  | powerOn => cases noReset
  | resetNAsserted => cases noReset
  | _ => exact .inl touched

end Sys2Proof.Machine

namespace Sys2Proof.Safety

open Machine

section Link

variable {c : Instr} {s t : State}

/-- What LinkSound says of the Control Queue alone. -/
structure QueueSound (s : State) : Prop where
  places : s.controlQueue.length ≤ Config.controlPlaces
  shared : (s.controlQueue.filter fun e => !e.isSyncAck).length ≤ Config.controlShared
  offline : s.link = .offline → ∀ e ∈ s.controlQueue, e.isSyncAck = false

/-- What LinkSound says of carrier, transmission and HELLO timer. -/
structure CarrierSound (s : State) : Prop where
  carrier : s.link ≠ .offline → s.carrier = true ∧ s.held = false
  sends : s.link = .offline → s.tx = none ∨ ∃ h, s.tx = some (.hello h)
  hello : s.held = false → (s.helloTimer ≠ .stopped ↔ s.link = .offline ∧ s.carrier = true)
  hello_held : s.held = true → s.helloTimer = .stopped

theorem linkSound_iff (s : State) : LinkSound s ↔ CarrierSound s ∧ QueueSound s :=
  ⟨fun h => ⟨⟨h.carrier, h.offline_sends, h.hello, h.hello_held⟩,
      ⟨h.control_places, h.control_shared, h.offline_no_syncAck⟩⟩,
    fun ⟨h, q⟩ => ⟨h.carrier, h.sends, h.hello, h.hello_held, q.places, q.shared, q.offline⟩⟩

theorem QueueSound.same (h : QueueSound s) (queue : t.controlQueue = s.controlQueue)
    (link : t.link = .offline → s.link = .offline) : QueueSound t where
  places := by rw [queue]; exact h.places
  shared := by rw [queue]; exact h.shared
  offline down := by rw [queue]; exact h.offline (link down)

/-- A MGMT_REPLY, DISPATCH_ACK or DISPATCH_NAK takes one of the shared places (R105). -/
theorem QueueSound.placed (h : QueueSound s) (e : ControlEntry) (queue : t.controlQueue = s.controlQueue ++ [e])
    (room : s.controlRoom = true) (kind : e.isSyncAck = false) (link : t.link = s.link) : QueueSound t := by
  have room := controlRoom_places room
  have kept := List.length_filter_le (fun e : ControlEntry => !e.isSyncAck) s.controlQueue
  simp only [Config.controlShared] at room
  refine ⟨?_, ?_, fun down => ?_⟩
  · rw [queue, List.length_append, List.length_singleton, Config.controlPlaces]
    omega
  · rw [queue, List.filter_append, List.length_append, List.filter_singleton, kind, Config.controlShared]
    simp only [Bool.not_false, cond_true, List.length_singleton]
    omega
  · rw [queue]
    intro x queued
    rw [List.mem_append, List.mem_singleton] at queued
    obtain queued | rfl := queued
    · exact h.offline (link ▸ down) x queued
    · exact kind

theorem QueueSound.desk (h : QueueSound s) (desk : DeskStep s t) (link : t.link = s.link) : QueueSound t := by
  have stays : t.link = .offline → s.link = .offline := fun down => link ▸ down
  cases desk with
  | same _ queue _ _ _ => exact h.same queue stays
  | answered frame room _ kind desk =>
    refine h.placed ⟨frame, false⟩ desk.queue room ?_ link
    unfold ControlEntry.isSyncAck
    split
    · rename_i hello expected frame_eq
      exact absurd frame_eq (kind hello expected)
    · rfl
  | executed reply awaited room _ _ _ queue _ _ _ => exact h.placed ⟨.mgmtReply reply, awaited⟩ queue room rfl link
  | draining _ _ _ _ _ queue _ _ _ => exact h.same queue stays
  | drained status result _ desk =>
    cases entry : s.replyCache.find? (fun e => e.reply.isNone) with
    | none =>
      rw [endDrain_of_none status result entry] at desk
      exact h.same desk.queue stays
    | some e =>
      rw [endDrain_of_entry status result entry] at desk
      by_cases allowed : s.controlQueue.length ≤ 6 ∧ s.link ≠ .offline
      · exact h.placed ⟨.mgmtReply ⟨e.id, e.code, status, result⟩, false⟩
          (desk.queue.trans (if_pos allowed)) ((controlRoom_iff s).mpr allowed.1) rfl link
      · exact h.same (desk.queue.trans (if_neg allowed)) stays

/-- Carrier, pins, link and HELLO timer as before, and in OFFLINE no frame put in transmission. -/
theorem CarrierSound.same (h : CarrierSound s) (carrier : t.carrier = s.carrier) (held : t.held = s.held)
    (link : t.link = s.link) (timer : t.helloTimer = s.helloTimer)
    (sends : s.link = .offline → t.tx = s.tx ∨ t.tx = none) : CarrierSound t where
  carrier up := by rw [carrier, held]; exact h.carrier (link ▸ up)
  sends down := by
    obtain same | none := sends (link ▸ down)
    · rw [same]; exact h.sends (link ▸ down)
    · exact .inl none
  hello working := by rw [timer, link, carrier]; exact h.hello (held ▸ working)
  hello_held low := by rw [timer]; exact h.hello_held (held ▸ low)

theorem CarrierSound.startHello (h : CarrierSound s) : CarrierSound (Machine.startHello s) := by
  unfold Machine.startHello
  split
  · rename_i may
    refine ⟨h.carrier, fun _ => .inr ⟨_, rfl⟩, fun working => ?_, fun low => ?_⟩
    · rw [← h.hello working, may.2.2]
      simp
    · have stopped := h.hello_held low
      rw [may.2.2] at stopped
      cases stopped
  · exact h

theorem CarrierSound.expireHello (h : CarrierSound s) : CarrierSound (Machine.expireHello s) := by
  unfold Machine.expireHello
  split
  · rename_i d waiting
    split
    · refine ⟨h.carrier, h.sends, fun working => ?_, fun low => ?_⟩
      · rw [← h.hello working, waiting]
        simp
      · have stopped := h.hello_held low
        rw [waiting] at stopped
        cases stopped
    · exact h
  · exact h

theorem CarrierSound.execCarrierGain (h : CarrierSound s) (answer : Machine.execCarrierGain s = .next t) :
    CarrierSound t := by
  unfold Machine.execCarrierGain at answer
  cases present : s.carrier with
  | true =>
    rw [present] at answer
    cases answer
    exact h
  | false =>
    have offline : s.link = .offline := by
      by_contra up
      rw [(h.carrier up).1] at present
      cases present
    cases held : s.held with
    | true =>
      rw [present, held] at answer
      cases answer
      refine ⟨fun up => absurd offline up, h.sends, fun working => ?_, fun _ => h.hello_held held⟩
      cases held.symm.trans working
    | false =>
      rw [present, held] at answer
      cases answer
      refine ⟨fun up => absurd offline up, h.sends, fun _ => ?_, fun low => ?_⟩
      · simp [gainCarrier, offline]
      · cases held.symm.trans low

theorem LinkSound.synced (h : LinkSound s) (working : s.held = false) (carrier : s.carrier = true)
    (room : s.controlQueue.length ≤ 7) : LinkSound (Machine.synced s) where
  carrier _ := ⟨carrier, working⟩
  offline_sends := nofun
  hello _ := iff_of_false (fun stopped => stopped rfl) nofun
  hello_held _ := rfl
  control_places := by
    simp only [Machine.synced, List.length_append, List.length_singleton, Config.controlPlaces]
    omega
  control_shared := by
    simp only [Machine.synced, List.filter_append, List.length_append]
    exact h.control_shared
  offline_no_syncAck := nofun

theorem LinkSound.raise (h : LinkSound s) (e : Event) : LinkSound (Machine.raise s e) := by
  have reach := raise_reach s e
  obtain ⟨sound, queued⟩ := (linkSound_iff s).mp h
  have link : (Machine.raise s e).link = s.link := (congrArg State.link reach :)
  exact (linkSound_iff _).mpr ⟨sound.same (congrArg State.carrier reach :) (congrArg State.held reach :) link
    (congrArg State.helloTimer reach :) fun _ => .inl (congrArg State.tx reach :),
    queued.same (congrArg State.controlQueue reach :) fun down => link ▸ down⟩

theorem LinkSound.takeSync (h : LinkSound s) (working : s.held = false) : LinkSound (Machine.takeSync s) := by
  cases carrier : s.carrier with
  | false => rwa [takeSync_of_no_carrier carrier]
  | true =>
    by_cases room : s.controlQueue.length ≤ 7
    · have sound := h.synced working carrier room
      rw [takeSync_of_room carrier room]
      split
      · exact sound.raise _
      · exact sound
    · rw [takeSync_of_full carrier (Nat.lt_of_not_le room)]
      exact ⟨h.carrier, h.offline_sends, h.hello, h.hello_held, h.control_places, h.control_shared,
        h.offline_no_syncAck⟩

theorem LinkSound.linkDown (h : LinkSound s) (working : s.held = false) : LinkSound (Machine.linkDown s) := by
  have touched := linkDown_touches s
  have queue := linkDown_controlQueue s
  have held : (Machine.linkDown s).held = false := (congrArg State.held touched :).trans working
  refine ⟨fun up => absurd rfl up, fun _ => .inl (linkDown_tx s), fun _ => ?_, fun _ => rfl, ?_, ?_, fun _ e queued => ?_⟩
  · exact iff_of_false (fun stopped => stopped rfl) fun present => nomatch present.2
  · rw [queue]
    exact (List.length_filter_le _ _).trans h.control_places
  · rw [queue]
    exact (List.filter_sublist.filter _).length_le.trans h.control_shared
  · rw [queue, List.mem_filter] at queued
    simpa using queued.2

theorem LinkSound.stall (h : LinkSound s) (up : s.link = .up) : LinkSound (Machine.stall s) := by
  have notOffline : s.link ≠ .offline := by rw [up]; decide
  have sound : LinkSound (stopped s) := by
    refine ⟨fun _ => h.carrier notOffline, nofun, fun working => ?_, h.hello_held, h.control_places, h.control_shared,
      nofun⟩
    exact (h.hello working).trans (iff_of_false (fun down => notOffline down.1) nofun)
  rw [stall_eq]
  split
  · exact sound
  · exact sound.raise _

theorem QueueSound.startControl (h : QueueSound s) : QueueSound (Machine.startControl s) := by
  unfold Machine.startControl
  split
  · exact h
  · rename_i e rest queue
    have tail : rest.Sublist s.controlQueue := queue ▸ List.sublist_cons_self e rest
    split
    · exact ⟨tail.length_le.trans h.places, (tail.filter _).length_le.trans h.shared,
        fun down x queued => h.offline down x (tail.subset queued)⟩
    · exact h

theorem LinkSound.execCarrierLoss (h : LinkSound s) (noReset : performsReset .carrierLoss s = false)
    (answer : Machine.execCarrierLoss s = .next t) : LinkSound t := by
  unfold Machine.execCarrierLoss at answer
  cases carrier : s.carrier with
  | false =>
    rw [if_pos (by rw [carrier]; rfl)] at answer
    cases answer
    exact h
  | true =>
    rw [if_neg (by rw [carrier]; decide)] at answer
    split at answer
    · rename_i low
      cases answer
      have offline : s.link = .offline := by
        by_contra up
        rw [(h.carrier up).2] at low
        cases low
      exact ⟨fun up => absurd offline up, h.offline_sends, fun working => (nomatch working.symm.trans low), h.hello_held,
        h.control_places, h.control_shared, h.offline_no_syncAck⟩
    · rename_i working
      cases answer
      rw [loseCarrier_of_no_reset (by simpa [performsReset, carrier, working] using noReset)]
      exact h.linkDown (Bool.eq_false_iff.mpr working)

theorem LinkSound.exec (h : LinkSound s) (retained : RetentionSound s) (answer : Machine.exec c s = .next t)
    (noReset : performsReset c s = false) : LinkSound t := by
  have touched := exec_touches answer noReset
  have carrier := congrArg State.carrier touched
  have held := congrArg State.held touched
  have link := congrArg State.link touched
  have timer := congrArg State.helloTimer touched
  have queue := congrArg State.controlQueue touched
  have tx := congrArg State.tx touched
  obtain ⟨sound, queued⟩ := (linkSound_iff s).mp h
  have noControl (offline : s.link = .offline) : s.noControlSent := fun e sent => by
    obtain none | ⟨hello, sends⟩ := h.offline_sends offline
    · exact nomatch none.symm.trans sent
    · exact nomatch sends.symm.trans sent
  have desk (sync : c ≠ .sync) (start : c ≠ .controlFrameStart) (loss : c ≠ .carrierLoss) (link : t.link = s.link) :
      QueueSound t := queued.desk (exec_desk answer noReset sync start loss) link
  cases c with
  | helloStart =>
    exact (linkSound_iff t).mpr
      ⟨live_keeps answer sound sound.startHello, queued.same queue fun down => link ▸ down⟩
  | helloTimerExpiry =>
    exact (linkSound_iff t).mpr
      ⟨live_keeps answer sound sound.expireHello, queued.same queue fun down => link ▸ down⟩
  | carrierGain =>
    exact (linkSound_iff t).mpr ⟨sound.execCarrierGain answer, queued.same queue fun down => link ▸ down⟩
  | sync =>
    cases working : s.held with
    | true => cases (live_of_held working _).symm.trans answer; exact h
    | false => cases (live_of_working working _).symm.trans answer; exact h.takeSync working
  | retryCheckAtLimit =>
    refine live_keeps answer h ?_
    obtain same | ⟨up, stalled⟩ := retryCheck_cases s
    · rwa [same]
    · rw [stalled]
      exact h.stall up
  | ackTimerExpiry =>
    refine live_keeps answer h ?_
    obtain same | ⟨d, e, rest, timer, _, ⟨stalled, _⟩ | ⟨back, _⟩⟩ := expireAck_cases s
    · rwa [same]
    · rw [stalled]
      exact h.stall (retained.timer_up (by rw [timer]; rfl)).1
    · rw [back]
      exact ⟨h.carrier, h.offline_sends, h.hello, h.hello_held, h.control_places, h.control_shared,
        h.offline_no_syncAck⟩
  | carrierLoss => exact h.execCarrierLoss noReset answer
  | controlFrameStart =>
    exact (linkSound_iff t).mpr ⟨sound.same carrier held link timer
      fun down => exec_tx_offline answer noReset nofun nofun down (noControl down),
      live_keeps answer queued queued.startControl⟩
  | powerOn => cases noReset
  | resetNAsserted => cases noReset
  | _ =>
    exact (linkSound_iff t).mpr ⟨sound.same carrier held link timer
      fun down => exec_tx_offline answer noReset nofun nofun down (noControl down),
      desk nofun nofun nofun link⟩

end Link

end Sys2Proof.Safety

namespace Sys2Proof.Machine

open Safety

/-- The HELLO timer after a reset: a HELLO is due if carrier is present (R97). -/
theorem linkSound_of_reset {s : State} (offline : s.link = .offline) (idle : s.tx = none) (queue : s.controlQueue = [])
    (timer : s.helloTimer = if s.held = false ∧ s.carrier = true then .due else .stopped) : LinkSound s := by
  refine ⟨fun up => absurd offline up, fun _ => .inl idle, fun working => ?_, fun low => ?_, ?_, ?_, ?_⟩
  · rw [timer]
    cases s.carrier <;> simp [working, offline]
  · rw [timer]
    simp [low]
  · simp [queue]
  · simp [queue]
  · simp [queue]

theorem ResetOf.linkSound {s t : State} (h : ResetOf s t) : LinkSound t := by
  cases h with
  | ordered working carrier level =>
    have timer (c : Bool) : (if c = true then HelloTimer.due else .stopped)
        = if s.held = false ∧ c = true then .due else .stopped := by
      cases c <;> simp [working]
    cases level <;> exact linkSound_of_reset rfl rfl rfl (timer carrier)
  | held supplyGood resetNLow cause low =>
    refine linkSound_of_reset rfl rfl rfl ?_
    have notWorking (c : Bool) : ¬ ((resetNLow || !supplyGood) = false ∧ c = true) := by simp [low]
    exact (if_neg (notWorking s.carrier)).symm
  | released straps =>
    refine linkSound_of_reset rfl rfl rfl ?_
    cases carrier : s.carrier <;> simp [resetValues, State.held]

/-- Settles O15: the Control Queue by what a command does to the desk, the rest by the few commands that move the link, its HELLO timer or its carrier. -/
theorem stepKeepsLinkAndControlQueue : Obligations.StepKeepsLinkAndControlQueue := by
  intro s t sound retained stepped
  refine step_leads (A := fun u => LinkSound u ∧ RetentionSound u) stepped (fun _ _ _ _ ⟨link, list⟩ => ?_) And.left
    (fun answer noReset ⟨link, list⟩ => link.exec list answer noReset) (fun reset _ => reset.linkSound) ⟨sound, retained⟩
  exact ⟨⟨link.carrier, link.offline_sends, link.hello, link.hello_held, link.control_places, link.control_shared,
      link.offline_no_syncAck⟩,
    ⟨list.places, list.consecutive, list.retry_le, list.retry_falls, list.pointer, list.timer_up, list.offline_clear⟩⟩

end Sys2Proof.Machine
end

section
/-! Proofs: every step keeps tables and configuration in their ranges, and Emission Queues, express-run count and Start History within their bounds (R25, R32, R35, R78, R83, R85 to R87, R151). -/

namespace Sys2Proof.Machine

open Safety

/-! ### Tables -/

section Tables

variable {c : Instr} {s t : State}

/-- The tables and the configuration are as before. -/
structure SameTables (s t : State) : Prop where
  active : t.active = s.active
  shadow : t.shadow = s.shadow
  profiles : t.profiles = s.profiles
  templates : t.templates = s.templates
  config : t.config = s.config

theorem CloseReach.sameTables (h : CloseReach s t) : SameTables s t :=
  ⟨(congrArg State.active h :), (congrArg State.shadow h :), (congrArg State.profiles h :),
    (congrArg State.templates h :), (congrArg State.config h :)⟩

theorem TrialReach.sameTables (h : TrialReach s t) : SameTables s t :=
  ⟨(congrArg State.active h :), (congrArg State.shadow h :), (congrArg State.profiles h :),
    (congrArg State.templates h :), (congrArg State.config h :)⟩

theorem tablesInRange_of_same (h : TablesInRange s) (same : SameTables s t) : TablesInRange t where
  active i := by rw [same.active]; exact h.active i
  shadow i := by rw [same.shadow]; exact h.shadow i
  profiles p := by rw [same.profiles]; exact h.profiles p
  templates i := by rw [same.templates]; exact h.templates i
  config := by rw [same.config]; exact h.config

theorem matchEntryOf_inRange {r : MatchRecord} (h : matchInRange r = true) : MatchEntryInRange (matchEntryOf r) := by
  obtain ⟨_, _, low, high, ordered, _⟩ := (matchInRange_iff r).mp h
  exact ⟨low.1, ordered, high.2⟩

theorem configOf_inRange {r : ConfigRecord} (h : configInRange r = true) : ConfigInRange (configOf r) := by
  obtain ⟨paceCount, window, window', ack, ack', retry, retry', _, _, mark, run, run', _⟩ := (configInRange_iff r).mp h
  exact ⟨paceCount, ⟨window, window'⟩, ⟨ack, ack'⟩, ⟨retry, retry'⟩, mark, ⟨run, run'⟩⟩

/-- A property of every entry holds after the write of an entry that has it. -/
theorem forall_vector_set {α : Type} {n : Nat} {v : Vector α n} {P : α → Prop} (h : ∀ j : Fin n, P v[j]) {x : α} (hx : P x)
    (i : Fin n) : ∀ j : Fin n, P (v.set i.val x i.isLt)[j] := by
  intro j
  simp only [Fin.getElem_fin, Vector.getElem_set]
  split
  · exact hx
  · exact h j

/-- Each write that is taken is of values in range (R30, R33, R35, R152). -/
theorem exec_keeps_tablesInRange (h : TablesInRange s) (answer : exec c s = .next t) (noReset : performsReset c s = false) :
    TablesInRange t := by
  have touched := exec_touches answer noReset
  have request (u v : State) (hu : TablesInRange u) : TablesInRange (u.requestOf v) :=
    tablesInRange_of_same hu ⟨rfl, rfl, rfl, rfl, rfl⟩
  have same (active : t.active = s.active) (shadow : t.shadow = s.shadow) (profiles : t.profiles = s.profiles)
      (templates : t.templates = s.templates) (config : t.config = s.config) : TablesInRange t :=
    tablesInRange_of_same h ⟨active, shadow, profiles, templates, config⟩
  cases c with
  | setConfig id record =>
    refine command_keeps answer request (fun u hu => ?_) h
    split
    · exact hu
    · rename_i inRange
      split
      · exact hu
      · exact { hu with config := configOf_inRange (by simpa using inRange) }
  | writeMatch id index record =>
    refine command_keeps answer request (fun u hu => ?_) h
    split
    · rename_i inRange
      exact { hu with shadow := forall_vector_set hu.shadow (matchEntryOf_inRange inRange.2) _ }
    · exact hu
  | commitMatch id =>
    exact command_keeps answer request (fun u hu => { hu with active := hu.shadow }) h
  | writeProfile id profile record =>
    refine command_keeps answer request (fun u hu => ?_) h
    split
    · rename_i inRange
      have written : TablesInRange
          { u with profiles := u.profiles.set (Fin.ofNat 32 profile.toNat).val (profileOf record) (Fin.isLt _) } :=
        { hu with profiles := forall_vector_set hu.profiles (profileOf_inRange inRange.2) _ }
      exact tablesInRange_of_same (tablesInRange_of_same written (closeProfile_closeReach _ _ _).sameTables)
        (tryHeldFor_reach _ _).sameTables
    · exact hu
  | writeTemplate id template length bytes =>
    have answer : execWriteTemplate id template length bytes s = .next t := answer
    unfold execWriteTemplate at answer
    split at answer
    · rename_i declared
      refine command_keeps answer request (fun u hu => ?_) h
      split
      · rename_i inRange
        have fits : bytes.length ≤ 32 := (of_decide_eq_true declared).trans_le inRange.2
        exact { hu with templates := forall_vector_set (P := fun b : List Byte => b.length ≤ 32) hu.templates fits _ }
      · exact hu
    · refine live_keeps answer h ?_
      unfold countBadLength
      split
      · exact h
      · exact tablesInRange_of_same h ⟨rfl, rfl, rfl, rfl, rfl⟩
  | powerOn => cases noReset
  | resetNAsserted => cases noReset
  | _ =>
    exact same (congrArg State.active touched :) (congrArg State.shadow touched :) (congrArg State.profiles touched :)
      (congrArg State.templates touched :) (congrArg State.config touched :)

/-- The tables and the configuration of a pin reset (section 8.6). -/
theorem reset_tablesInRange : TablesInRange State.reset where
  active i := by simp only [State.reset, Fin.getElem_fin, Vector.getElem_replicate, MatchEntryInRange]; decide
  shadow i := by simp only [State.reset, Fin.getElem_fin, Vector.getElem_replicate, MatchEntryInRange]; decide
  profiles p := by simp only [State.reset, Fin.getElem_fin, Vector.getElem_replicate, ProfileInRange]; decide
  templates i := by simp only [State.reset, Fin.getElem_fin, Vector.getElem_replicate]; decide
  config := by refine ⟨?_, ⟨?_, ?_⟩, ⟨?_, ?_⟩, ⟨?_, ?_⟩, ?_, ⟨?_, ?_⟩⟩ <;> decide

theorem ResetOf.tablesInRange (reset : ResetOf s t) (h : TablesInRange s) : TablesInRange t := by
  have ofReset {u : State} (same : SameTables State.reset u) : TablesInRange u := tablesInRange_of_same reset_tablesInRange same
  cases reset with
  | ordered _ _ level =>
    cases level
    · exact tablesInRange_of_same h ⟨rfl, rfl, rfl, rfl, rfl⟩
    · exact ofReset ⟨rfl, rfl, rfl, rfl, rfl⟩
  | held => exact ofReset ⟨rfl, rfl, rfl, rfl, rfl⟩
  | released => exact ofReset ⟨rfl, rfl, rfl, rfl, rfl⟩

theorem step_keeps_tablesInRange (h : TablesInRange s) (stepped : step s = .next t) : TablesInRange t :=
  step_keeps stepped (fun _ _ _ _ hu => tablesInRange_of_same hu ⟨rfl, rfl, rfl, rfl, rfl⟩)
    (fun answer noReset hu => exec_keeps_tablesInRange hu answer noReset) (fun reset hu => reset.tablesInRange hu) h

end Tables

/-! ### Moves into the Emission Queues -/

section Move

variable {s : State} {cls : BundleClass}

/-- With no closed slot of the class nothing moves (R63). -/
theorem moveHead_of_empty (order : s.closeOrder cls = []) : moveHead s cls = s := by
  unfold moveHead
  rw [order]

/-- With every place of its queue taken a class's closed slots wait (R63, R80). -/
theorem moveHead_of_full (full : Config.emissionPlaces ≤ (s.queue cls).length) : moveHead s cls = s := by
  unfold moveHead
  split
  · rfl
  · exact if_pos full

/-- The head of the Close Order List moves to the tail of the queue, and its slot becomes IDLE (R63). -/
theorem moveHead_of_room {n : SlotNo} {rest : List SlotNo} {b : Bundle} {cause : CloseCause} {qc : BundleClass}
    (room : (s.queue cls).length < Config.emissionPlaces) (order : s.closeOrder cls = n :: rest)
    (closed : s.slots[n] = .closed b cause qc) :
    moveHead s cls = slotBecameIdle ((vacate s n cls).setQueue cls (s.queue cls ++ [descriptorOf b cause qc])) := by
  have gone : (s.closeOrder cls).erase n = rest := by rw [order, List.erase_cons_head]
  unfold moveHead vacate
  rw [gone]
  simp only [order, closed, room.not_ge, if_false]
  cases cls <;> rfl

theorem slotBecameIdle_queue (s : State) (cls : BundleClass) : (slotBecameIdle s).queue cls = s.queue cls := by
  unfold slotBecameIdle
  split
  · exact (congrArg (State.queue · cls) (tryHeld_reach s) :).trans (by cases cls <;> rfl)
  · split
    · cases entry : s.replyCache.find? (fun e => e.reply.isNone) with
      | none => rw [endDrain_of_none _ _ entry]; cases cls <;> rfl
      | some e => rw [endDrain_of_entry _ _ entry]; cases cls <;> rfl
    · rfl
  · rfl

theorem setQueue_queue_ne {c c' : BundleClass} (h : c' ≠ c) (s : State) (l : List Descriptor) :
    (s.setQueue c l).queue c' = s.queue c' := by
  cases c <;> cases c' <;> first | rfl | exact absurd rfl h

theorem vacate_queue (s : State) (n : SlotNo) (cls c : BundleClass) : (vacate s n cls).queue c = s.queue c := by
  cases cls <;> cases c <;> rfl

/-- What a move leaves in the queues: each as it was, or the class's own with one more descriptor in a free place. -/
theorem moveHead_queue (s : State) (cls : BundleClass) :
    moveHead s cls = s
      ∨ (s.queue cls).length < Config.emissionPlaces
        ∧ (∃ d, (moveHead s cls).queue cls = s.queue cls ++ [d])
        ∧ ∀ c ≠ cls, (moveHead s cls).queue c = s.queue c := by
  by_cases full : Config.emissionPlaces ≤ (s.queue cls).length
  · exact .inl (moveHead_of_full full)
  · obtain same | ⟨n, rest, b, cause, qc, _, _, moved⟩ := moveHead_cases s cls
    · exact .inl same
    · refine .inr ⟨Nat.lt_of_not_le full, ⟨descriptorOf b cause qc, ?_⟩, fun c other => ?_⟩
      · rw [moved, slotBecameIdle_queue, State.setQueue_queue]
      · rw [moved, slotBecameIdle_queue, setQueue_queue_ne other, vacate_queue]

end Move

/-! ### Bounds of the emission -/

section Emission

variable {c : Instr} {s t : State}

theorem emissionSound_iff (s : State) :
    EmissionSound s ↔ (∀ cls, (s.queue cls).length ≤ Config.emissionPlaces) ∧ s.expressRun ≤ 15
      ∧ s.startHistory.length ≤ s.config.paceCount.toNat :=
  ⟨fun h => ⟨fun cls => by cases cls; exacts [h.express_places, h.bulk_places], h.run_le, h.history_le⟩,
    fun ⟨places, run, history⟩ => ⟨places .express, places .bulk, run, history⟩⟩

/-- Queues, express-run count, Start History and configuration are as before. -/
theorem emissionSound_of_same (h : EmissionSound s) (express : t.expressQueue = s.expressQueue)
    (bulk : t.bulkQueue = s.bulkQueue) (run : t.expressRun = s.expressRun) (history : t.startHistory = s.startHistory)
    (config : t.config = s.config) : EmissionSound t where
  express_places := by rw [express]; exact h.express_places
  bulk_places := by rw [bulk]; exact h.bulk_places
  run_le := by rw [run]; exact h.run_le
  history_le := by rw [history, config]; exact h.history_le

theorem emissionSound_moveHead (h : EmissionSound s) (cls : BundleClass) : EmissionSound (moveHead s cls) := by
  obtain same | ⟨room, ⟨d, own⟩, others⟩ := moveHead_queue s cls
  · rwa [same]
  · have reach := moveHead_reach s cls
    obtain ⟨places, run, history⟩ := (emissionSound_iff s).mp h
    refine (emissionSound_iff _).mpr ⟨fun c => ?_, ?_, ?_⟩
    · by_cases ofClass : c = cls
      · rw [ofClass, own, List.length_append, List.length_singleton]
        exact room
      · rw [others c ofClass]
        exact places c
    · rw [(congrArg State.expressRun reach :)]
      exact run
    · rw [(congrArg State.startHistory reach :), (congrArg State.config reach :)]
      exact history

/-- A permitted start is recorded within PACE_COUNT (R86, R88). -/
theorem recordedStarts_length (permitted : s.permitted = true)
    (h : s.startHistory.length ≤ s.config.paceCount.toNat) :
    s.recordedStarts.length ≤ s.config.paceCount.toNat := by
  unfold State.recordedStarts
  split
  · exact h
  · rename_i paced
    have paced : s.config.paceCount.toNat ≠ 0 := fun zero => paced (BitVec.eq_of_toNat_eq zero)
    rw [List.length_append, List.length_singleton]
    exact ((permitted_iff s).mp permitted).resolve_left paced

/-- A class is chosen with EXPRESS and BULK both waiting only while the express-run count is below its bound (R84). -/
theorem runAfter_le {cls : BundleClass} (chosen : s.chosenClass = some cls) (bound : s.config.expressRun.toNat ≤ 15) :
    s.runAfter cls ≤ 15 := by
  unfold State.runAfter
  split
  · exact Nat.zero_le _
  · split
    · exact Nat.zero_le _
    · rename_i waits
      unfold State.chosenClass at chosen
      split at chosen
      · cases chosen
      · cases chosen
      · rename_i empty
        rw [empty] at waits
        exact absurd rfl waits
      · split at chosen
        · omega
        · cases chosen

theorem emissionSound_startFirst (h : EmissionSound s) (tables : TablesInRange s) : EmissionSound (startFirst s) := by
  unfold startFirst
  split
  · rename_i may
    obtain ⟨_, _, _, permitted⟩ := may
    split
    · exact h
    · rename_i cls chosen
      cases queue : s.queue cls with
      | nil => rwa [startNewBundle_of_empty queue]
      | cons d rest =>
        rw [startNewBundle_of_queue queue]
        obtain ⟨places, _, history⟩ := (emissionSound_iff s).mp h
        refine emissionSound_moveHead ((emissionSound_iff _).mpr ⟨fun c => ?_, ?_, ?_⟩) cls
        · have started : (startedBundle s cls d rest).queue c = (s.setQueue cls rest).queue c := by cases c <;> rfl
          rw [started]
          by_cases ofClass : c = cls
          · have full := places cls
            rw [queue] at full
            rw [ofClass, State.setQueue_queue]
            exact (Nat.le_succ _).trans full
          · rw [setQueue_queue_ne ofClass]
            exact places c
        · exact runAfter_le chosen tables.config.expressRun.2
        · have config : (startedBundle s cls d rest).config = s.config := by cases cls <;> rfl
          rw [config]
          exact recordedStarts_length permitted history
  · exact h

theorem emissionSound_startRetransmission (h : EmissionSound s) : EmissionSound (startRetransmission s) := by
  unfold startRetransmission
  split
  · exact h
  · split
    · rename_i may
      exact ⟨h.express_places, h.bulk_places, h.run_le, recordedStarts_length may.2.2 h.history_le⟩
    · exact h

theorem emissionSound_ageHistory (h : EmissionSound s) : EmissionSound (ageHistory s) := by
  unfold ageHistory
  split
  · exact h
  · rename_i e rest history
    split
    · refine ⟨h.express_places, h.bulk_places, h.run_le, ?_⟩
      have le := h.history_le
      rw [history, List.length_cons] at le
      exact (Nat.le_succ _).trans le
    · exact h

/-- A changed PACE_COUNT empties the Start History (R90). -/
theorem emissionSound_writeConfig (h : EmissionSound s) (config : GlobalConfig) : EmissionSound (writeConfig s config) := by
  refine ⟨h.express_places, h.bulk_places, h.run_le, ?_⟩
  unfold writeConfig
  dsimp only
  split
  · rename_i same
    rw [same.1]
    exact h.history_le
  · exact Nat.zero_le _

theorem exec_keeps_emissionSound (h : EmissionSound s) (tables : TablesInRange s) (answer : exec c s = .next t)
    (noReset : performsReset c s = false) : EmissionSound t := by
  have touched := exec_touches answer noReset
  have same := emissionSound_of_same (t := t) h
  cases c with
  | slotMove cls => exact live_keeps (f := (moveHead · cls)) answer h (emissionSound_moveHead h cls)
  | startHistoryAgeing => exact live_keeps answer h (emissionSound_ageHistory h)
  | firstTransmissionStart => exact live_keeps answer h (emissionSound_startFirst h tables)
  | retransmissionStart => exact live_keeps answer h (emissionSound_startRetransmission h)
  | setConfig id record =>
    refine command_keeps answer (fun u v hu => emissionSound_of_same hu rfl rfl rfl rfl rfl) (fun u hu => ?_) h
    split
    · exact hu
    · split
      · exact hu
      · exact emissionSound_writeConfig hu _
  | powerOn => cases noReset
  | resetNAsserted => cases noReset
  | _ =>
    exact same (congrArg State.expressQueue touched :) (congrArg State.bulkQueue touched :)
      (congrArg State.expressRun touched :) (congrArg State.startHistory touched :) (congrArg State.config touched :)

theorem ResetOf.emissionSound (reset : ResetOf s t) : EmissionSound t := by
  cases reset with
  | ordered _ _ level => cases level <;> exact ⟨Nat.zero_le _, Nat.zero_le _, Nat.zero_le _, Nat.zero_le _⟩
  | held => exact ⟨Nat.zero_le _, Nat.zero_le _, Nat.zero_le _, Nat.zero_le _⟩
  | released => exact ⟨Nat.zero_le _, Nat.zero_le _, Nat.zero_le _, Nat.zero_le _⟩

theorem step_keeps_emissionSound (h : EmissionSound s) (tables : TablesInRange s) (stepped : step s = .next t) :
    EmissionSound t :=
  step_leads (A := fun u => EmissionSound u ∧ TablesInRange u) stepped
    (fun _ _ _ _ hu => ⟨emissionSound_of_same hu.1 rfl rfl rfl rfl rfl, tablesInRange_of_same hu.2 ⟨rfl, rfl, rfl, rfl, rfl⟩⟩)
    And.left (fun answer noReset hu => exec_keeps_emissionSound hu.1 hu.2 answer noReset) (fun reset _ => reset.emissionSound)
    ⟨h, tables⟩

end Emission

/-- Settles O12: the writes that are taken are in range, and each start and each move stays within its bound. -/
theorem stepKeepsTablesAndEmissionBounds : Obligations.StepKeepsTablesAndEmissionBounds :=
  ⟨fun _ _ => step_keeps_tablesInRange, fun _ _ => step_keeps_emissionSound⟩

end Sys2Proof.Machine
end

section
/-! Proofs: what a character, the byte-gap timer and the end of a field frame do to a port, receive state by receive state (R4 to R19, R128, R129). -/

namespace Sys2Proof.Machine

open Safety

/-! ### A character by receive state -/

section Receiver

variable {s : State} {p : PortNo}

/-- The receive states in which a frame is being received (R11). -/
def Port.receives (port : Port) : Prop := port.rx = .header ∨ port.rx = .payload ∨ port.rx = .check

theorem takeCharacter_off (off : s.ports[p].rx = .off) (v : Byte) (framing : Bool) : takeCharacter s p v framing = s := by
  simp only [takeCharacter, off]

theorem takeCharacter_header (header : s.ports[p].rx = .header) (v : Byte) :
    takeCharacter s p v false = takeHeader s p v := by
  simp [-Fin.getElem_fin, takeCharacter, header]

theorem takeCharacter_payload (payload : s.ports[p].rx = .payload) (v : Byte) :
    takeCharacter s p v false = takePayload s p v := by
  simp [-Fin.getElem_fin, takeCharacter, payload]

theorem takeCharacter_check (check : s.ports[p].rx = .check) (v : Byte) :
    takeCharacter s p v false = takeCheck s p v := by
  simp [-Fin.getElem_fin, takeCharacter, check]

theorem takeCharacter_discard (discard : s.ports[p].rx = .discard) (v : Byte) :
    takeCharacter s p v false = takeDiscard s p := by
  simp [-Fin.getElem_fin, takeCharacter, discard]

/-- The framing indication ends a reception with FRAMING (R11). -/
theorem takeCharacter_framed (reception : s.ports[p].receives) (v : Byte) :
    takeCharacter s p v true = s.setPort p (s.ports[p].failToHunt .framing) := by
  obtain header | payload | check := reception
  · simp [-Fin.getElem_fin, takeCharacter, header, State.modPort_eq]
  · simp [-Fin.getElem_fin, takeCharacter, payload, State.modPort_eq]
  · simp [-Fin.getElem_fin, takeCharacter, check, State.modPort_eq]

theorem takeCharacter_framed_discard (discard : s.ports[p].rx = .discard) (v : Byte) :
    takeCharacter s p v true = s.setPort p (s.ports[p].settle .hunt) := by
  simp [-Fin.getElem_fin, takeCharacter, discard, State.modPort_eq]

/-! ### The byte-gap timer -/

theorem exec_byteGapTimerExpiry_of_working (working : s.held = false) (p : PortNo) :
    exec (.byteGapTimerExpiry p) s = .next (byteGapExpiry s p) :=
  live_of_working working fun u => byteGapExpiry u p

theorem byteGapExpiry_of_stopped (stopped : s.ports[p].byteGapRunning = false) : byteGapExpiry s p = s := by
  simp [-Fin.getElem_fin, byteGapExpiry, stopped]

theorem byteGapExpiry_of_receives (running : s.ports[p].byteGapRunning = true) (reception : s.ports[p].receives) :
    byteGapExpiry s p = s.setPort p (s.ports[p].failToHunt .framing) := by
  obtain header | payload | check := reception
  · simp [-Fin.getElem_fin, byteGapExpiry, running, header, State.modPort_eq]
  · simp [-Fin.getElem_fin, byteGapExpiry, running, payload, State.modPort_eq]
  · simp [-Fin.getElem_fin, byteGapExpiry, running, check, State.modPort_eq]

theorem byteGapExpiry_of_discard (running : s.ports[p].byteGapRunning = true) (discard : s.ports[p].rx = .discard) :
    byteGapExpiry s p = s.setPort p (s.ports[p].settle .hunt) := by
  simp [-Fin.getElem_fin, byteGapExpiry, running, discard, State.modPort_eq]

theorem byteGapExpiry_of_idle (idle : s.ports[p].rx = .hunt ∨ s.ports[p].rx = .off) : byteGapExpiry s p = s := by
  obtain hunt | off := idle
  · simp [-Fin.getElem_fin, byteGapExpiry, hunt]
  · simp [-Fin.getElem_fin, byteGapExpiry, off]

/-! ### Header bytes -/

/-- A header byte passes its check: the node number, the spare bits, the length (R6). -/
def Port.passes (port : Port) (v : Byte) : Prop :=
  (port.headerCount = 0 ∧ v ≠ 0 ∧ v ≠ 255) ∨ (port.headerCount = 1 ∧ v.getLsbD 3 = false ∧ v.getLsbD 2 = false)
    ∨ (port.headerCount = 2 ∧ v.toNat ≤ port.maxLen.toNat)

/-- The port once a header byte has been written (R6). -/
def Port.withHeader (port : Port) (v : Byte) : Port :=
  { port with
    tail := some (port.tail.getD [] ++ [v]), headerCount := port.headerCount + 1, byteGapRunning := true
    rx := if port.headerCount < 2 then port.rx else if v = 0 then .check else .payload }

/-- The port once a header byte has found its FIFO full (R12). -/
def Port.overflowHeader (port : Port) (v : Byte) : Port :=
  if port.headerCount = 2 then port.failToDiscard .overflow (v.toNat + 2) else port.failToHunt .overflow

theorem Port.hasRoom_iff (port : Port) : port.hasRoom = true ↔ port.usedBytes < 512 := decide_eq_true_iff

theorem Port.not_hasRoom {port : Port} (full : 512 ≤ port.usedBytes) : port.hasRoom = false :=
  decide_eq_false full.not_gt

theorem takeHeader_of_badSource (first : s.ports[p].headerCount = 0) {v : Byte} (bad : v = 0 ∨ v = 255) :
    takeHeader s p v = s.setPort p (s.ports[p].failToHunt .badSource) := by
  simp only [takeHeader, first, if_pos bad, if_true]

theorem takeHeader_of_badFlags (second : s.ports[p].headerCount = 1) {v : Byte}
    (bad : v.getLsbD 3 = true ∨ v.getLsbD 2 = true) :
    takeHeader s p v = s.setPort p (s.ports[p].failToHunt .length) := by
  simp only [takeHeader, second, if_pos bad, one_ne_zero, if_false, if_true]

theorem takeHeader_of_badLength (third : s.ports[p].headerCount = 2) {v : Byte}
    (bad : s.ports[p].maxLen.toNat < v.toNat) :
    takeHeader s p v = s.setPort p (s.ports[p].failToDiscard .length (v.toNat + 2)) := by
  simp [-Fin.getElem_fin, takeHeader, third, bad]

theorem takeHeader_of_passes {v : Byte} (passes : s.ports[p].passes v) : takeHeader s p v = writeHeader s p v := by
  obtain ⟨first, notZero, notBroadcast⟩ | ⟨second, clear3, clear2⟩ | ⟨third, fits⟩ := passes
  · have good : ¬ (v = 0 ∨ v = 255) := not_or.mpr ⟨notZero, notBroadcast⟩
    simp only [takeHeader, first, if_neg good, if_true]
  · have good : ¬ (v.getLsbD 3 = true ∨ v.getLsbD 2 = true) := by rw [clear3, clear2]; decide
    simp only [takeHeader, second, if_neg good, one_ne_zero, if_false, if_true]
  · simp [-Fin.getElem_fin, takeHeader, third, fits]

theorem writeHeader_of_room (room : s.ports[p].usedBytes < 512) (count : s.ports[p].headerCount ≤ 2) (v : Byte) :
    writeHeader s p v = s.setPort p (s.ports[p].withHeader v) := by
  rw [writeHeader, (Port.hasRoom_iff _).mpr room, Bool.not_true, if_neg (by decide), State.modPort_eq]
  refine congrArg (s.setPort p) ?_
  by_cases early : s.ports[p].headerCount < 2
  · have early' : s.ports[p].headerCount + 1 < 3 := by omega
    simp only [Port.withHeader, Port.writeByte, early, early', if_true]
  · have last : ¬ s.ports[p].headerCount + 1 < 3 := by omega
    simp only [Port.withHeader, Port.writeByte, early, last, if_false]
    split <;> rfl

theorem writeHeader_of_full (full : 512 ≤ s.ports[p].usedBytes) (v : Byte) :
    writeHeader s p v = reportOverflow (s.setPort p (s.ports[p].overflowHeader v)) p := by
  rw [writeHeader, Port.not_hasRoom full]
  rfl

/-! ### Payload bytes -/

/-- The port once a payload byte has been written (R7). -/
def Port.withPayload (port : Port) (v : Byte) : Port :=
  { port with
    tail := some (port.tail.getD [] ++ [v]), payloadCount := port.payloadCount + 1, byteGapRunning := true
    rx := if port.payloadCount + 1 = port.declared then .check else port.rx }

/-- The declared length does not move once header byte 2 has been written (R6). -/
theorem declared_writeByte {port : Port} (written : 3 ≤ (port.tail.getD []).length) (v : Byte) :
    (port.writeByte v).declared = port.declared := by
  unfold Port.declared Port.writeByte
  rw [Option.getD_some, List.getD_append _ _ _ _ written]

theorem takePayload_of_room (room : s.ports[p].usedBytes < 512) (written : 3 ≤ (s.ports[p].tail.getD []).length)
    (v : Byte) : takePayload s p v = s.setPort p (s.ports[p].withPayload v) := by
  have declared : Port.declared
      { s.ports[p].writeByte v with payloadCount := s.ports[p].payloadCount + 1, byteGapRunning := true }
        = s.ports[p].declared := declared_writeByte written v
  simp only [takePayload, (Port.hasRoom_iff _).mpr room, Bool.not_true, Bool.false_eq_true, if_false, declared]
  refine congrArg (s.setPort p) ?_
  by_cases complete : s.ports[p].payloadCount + 1 = s.ports[p].declared
  · rw [Port.withPayload, if_pos complete, if_pos complete]
    rfl
  · rw [Port.withPayload, if_neg complete, if_neg complete]
    rfl

theorem takePayload_of_full (full : 512 ≤ s.ports[p].usedBytes) (v : Byte) :
    takePayload s p v =
      reportOverflow (s.setPort p (s.ports[p].failToDiscard .overflow
        (s.ports[p].declared - (s.ports[p].payloadCount + 1) + 2))) p := by
  rw [takePayload, Port.not_hasRoom full]
  rfl

/-! ### Check bytes and DISCARD -/

/-- The port once the record is complete (R8). -/
def Port.withRecord (port : Port) : Port :=
  Port.settle
    { port with
      fifo := port.fifo ++ [recordOf (port.tail.getD [])]
      counters := { port.counters with good := bump port.counters.good } } .hunt

theorem takeCheck_first (first : s.ports[p].checkHigh = none) (v : Byte) :
    takeCheck s p v = s.setPort p { s.ports[p] with checkHigh := some v, byteGapRunning := true } := by
  simp only [takeCheck, first]

theorem takeCheck_good {hi v : Byte} (second : s.ports[p].checkHigh = some hi)
    (good : hi ++ v = crc16 (s.ports[p].tail.getD [])) : takeCheck s p v = s.setPort p s.ports[p].withRecord := by
  simp only [takeCheck, second, word16, good, if_true]
  rfl

theorem takeCheck_bad {hi v : Byte} (second : s.ports[p].checkHigh = some hi)
    (bad : hi ++ v ≠ crc16 (s.ports[p].tail.getD [])) :
    takeCheck s p v = s.setPort p (s.ports[p].failToHunt .crc) := by
  simp only [takeCheck, second, word16, bad, if_false]

theorem takeDiscard_eq (s : State) (p : PortNo) :
    takeDiscard s p = s.setPort p
      (if s.ports[p].remaining ≤ 1 then s.ports[p].settle .hunt
      else { s.ports[p] with remaining := s.ports[p].remaining - 1, byteGapRunning := true }) := by
  simp only [takeDiscard, State.modPort_eq]

/-- OVERFLOW is reported once while the port's flag is armed (R19). -/
theorem reportOverflow_setPort (s : State) (p : PortNo) (port : Port) :
    reportOverflow (s.setPort p port) p =
      if s.intakeArmed[p] then
        raise { s.setPort p port with intakeArmed := s.intakeArmed.set p.val false p.isLt } (.intakeOverflow p)
      else s.setPort p port := rfl

end Receiver

/-- Settles O20: the check of each header byte, then the write; payload bytes; the two check bytes. -/
theorem frameBytesAreCheckedAndWritten : Obligations.FrameBytesAreCheckedAndWritten := by
  refine ⟨?header, ?body⟩
  case header =>
    rintro s p v port bytes working rfl header count tail
    have taken : exec (.characterArrival p v false) s = .next (takeHeader s p v) := by
      rw [exec_characterArrival_of_working working, takeCharacter_header header]
    refine ⟨fun first bad => ?_, fun second bad => ?_, fun third bad => ?_, fun passes room => ?_⟩
    · rw [taken, takeHeader_of_badSource first bad]
      rfl
    · rw [taken, takeHeader_of_badFlags second bad]
      rfl
    · rw [taken, takeHeader_of_badLength third bad]
      rfl
    · rw [taken, takeHeader_of_passes passes, writeHeader_of_room room count, Port.withHeader, tail, header]
      rfl
  case body =>
    rintro s p v port bytes working rfl tail
    have arrives := exec_characterArrival_of_working working p v false
    refine ⟨fun payload room written => ?_, fun check first => ?_, fun hi check second good => ?_,
      fun hi check second bad => ?_⟩
    · have written : 3 ≤ (s.ports[p].tail.getD []).length := by rwa [tail]
      rw [arrives, takeCharacter_payload payload, takePayload_of_room room written, Port.withPayload, tail, payload]
      rfl
    · rw [arrives, takeCharacter_check check, takeCheck_first first]
    · have good : hi ++ v = crc16 (s.ports[p].tail.getD []) := by rwa [tail]
      rw [arrives, takeCharacter_check check, takeCheck_good second good, Port.withRecord, tail]
      rfl
    · have bad : hi ++ v ≠ crc16 (s.ports[p].tail.getD []) := by rwa [tail]
      rw [arrives, takeCharacter_check check, takeCheck_bad second bad]
      rfl

/-- Settles O21: a full FIFO ends reception in every state that writes; DISCARD only counts down. -/
theorem fullFifoEndsReceptionAndDiscardPassesOver : Obligations.FullFifoEndsReceptionAndDiscardPassesOver := by
  refine ⟨?full, ?discard⟩
  case full =>
    rintro s p v port working rfl full
    have full := full.ge
    have arrives := exec_characterArrival_of_working working p v false
    have overflows (header : s.ports[p].rx = .header) (passes : s.ports[p].passes v) :
        exec (.characterArrival p v false) s =
          .next (reportOverflow (s.setPort p (s.ports[p].overflowHeader v)) p) := by
      rw [arrives, takeCharacter_header header, takeHeader_of_passes passes, writeHeader_of_full full]
    refine ⟨fun header first notZero notBroadcast => ?_, fun header second clear3 clear2 => ?_,
      fun header third fits => ?_, fun payload => ?_⟩
    · rw [overflows header (.inl ⟨first, notZero, notBroadcast⟩), Port.overflowHeader, if_neg (by omega)]
      rfl
    · rw [overflows header (.inr (.inl ⟨second, clear3, clear2⟩)), Port.overflowHeader, if_neg (by omega)]
      rfl
    · rw [overflows header (.inr (.inr ⟨third, fits⟩)), Port.overflowHeader, if_pos third]
      rfl
    · rw [arrives, takeCharacter_payload payload, takePayload_of_full full]
      rfl
  case discard =>
    rintro s p v port working rfl
    have arrives := exec_characterArrival_of_working working p v false
    refine ⟨fun discard left => ?_, fun off => by rw [arrives, takeCharacter_off off]⟩
    rw [arrives, takeCharacter_discard discard, takeDiscard_eq]
    by_cases last : s.ports[p].remaining = 1
    · rw [if_pos last.le, if_pos last]
    · rw [if_neg (by omega), if_neg last]

/-- Settles O22: the framing indication and the byte-gap timer end a reception alike. -/
theorem framingEndsReception : Obligations.FramingEndsReception := by
  rintro s p v port working rfl
  have arrives := exec_characterArrival_of_working working p v true
  have expires := exec_byteGapTimerExpiry_of_working working p
  refine ⟨fun reception => ?_, fun reception running => ?_, fun discard => ?_, fun discard running => ?_,
    fun idle => ⟨?_, ?_⟩, fun stopped => ?_⟩
  · rw [arrives, takeCharacter_framed reception]
    rfl
  · rw [expires, byteGapExpiry_of_receives running reception]
    rfl
  · rw [arrives, takeCharacter_framed_discard discard]
  · rw [expires, byteGapExpiry_of_discard running discard]
  · rw [arrives]
    obtain hunt | off := idle
    · rw [takeCharacter_hunt_ignored hunt (by simp)]
    · rw [takeCharacter_off off]
  · rw [expires, byteGapExpiry_of_idle idle]
  · rw [expires, byteGapExpiry_of_stopped stopped]

/-! ### The field port transmitter -/

section Transmitter

variable {s : State} {p : PortNo}

/-- The Event Unit and the ports do not touch each other. -/
theorem raise_setPort (s : State) (p : PortNo) (port : Port) (e : Event) :
    raise (s.setPort p port) e = (raise s e).setPort p port := by
  cases enabled : s.config.enables e with
  | false => rw [raise_of_masked enabled, raise_of_masked (s := s.setPort p port) enabled]
  | true =>
    by_cases room : s.eventQueue.length < Config.eventPlaces
    · rw [raise_of_room enabled room, raise_of_room (s := s.setPort p port) enabled room]
      rfl
    · have full := Nat.le_of_not_lt room
      rw [raise_of_full enabled full, raise_of_full (s := s.setPort p port) enabled full]
      rfl

/-- The port once its frame in SENDING is complete, before the next start (R129). -/
def Port.sent (port : Port) : Port :=
  { port with
    sending := none
    counters := { port.counters with transmitted := bump port.counters.transmitted } }

theorem fieldFrameDone_of_idle (idle : s.ports[p].sending = none) : fieldFrameDone s p = s := by
  simp only [fieldFrameDone, idle]

/-- DELIVERED is raised for a record that carries CONFIRM (R129). -/
theorem fieldFrameDone_of_sending {r : PortTxRecord} (sending : s.ports[p].sending = some r) :
    fieldFrameDone s p =
      if r.confirm then
        raise (s.setPort p s.ports[p].sent.tryStart) (.delivered p r.node r.channel r.seq r.index)
      else s.setPort p s.ports[p].sent.tryStart := by
  simp only [fieldFrameDone, sending, State.modPort_eq]
  split
  · have reach := raise_reach (s.setPort p s.ports[p].sent) (.delivered p r.node r.channel r.seq r.index)
    have ports : (raise (s.setPort p s.ports[p].sent) (.delivered p r.node r.channel r.seq r.index)).ports
        = (s.setPort p s.ports[p].sent).ports := (congrArg State.ports reach :)
    change (raise (s.setPort p s.ports[p].sent) _).setPort p
      ((raise (s.setPort p s.ports[p].sent) (.delivered p r.node r.channel r.seq r.index)).ports[p]).tryStart = _
    rw [ports, State.setPort_get, if_pos rfl, raise_setPort, State.setPort_setPort, raise_setPort]
  · change (s.setPort p s.ports[p].sent).setPort p ((s.setPort p s.ports[p].sent).ports[p]).tryStart = _
    rw [State.setPort_get, if_pos rfl, State.setPort_setPort]

theorem tryStart_of_sent (port : Port) :
    port.sent.tryStart =
      match port.txQueue with
      | q :: rest => if port.enabled then { port.sent with sending := some q, txQueue := rest } else port.sent
      | [] => port.sent := by
  unfold Port.tryStart Port.sent
  cases port.txQueue <;> rfl

end Transmitter

/-- Settles O24: the completion counts the record, reports it, and starts the next one of an enabled port. -/
theorem fieldFrameCompletes : Obligations.FieldFrameCompletes := by
  rintro s p port working rfl
  have completes : exec (.fieldFrameComplete p) s = .next (fieldFrameDone s p) :=
    live_of_working working fun u => fieldFrameDone u p
  refine ⟨fun r sending => ?_, fun idle => by rw [completes, fieldFrameDone_of_idle idle]⟩
  rw [completes, fieldFrameDone_of_sending sending, tryStart_of_sent]
  rfl

end Sys2Proof.Machine
end

section
/-! Proofs: a field frame that the transmitter builds is received whole, character by character (R5 to R8, R128, R175). -/

namespace Sys2Proof.Machine

open Safety

/-! ### The receiver between two characters of a frame -/

/-- The receiver with the header bytes `bytes` written. -/
def Port.inHeader (port : Port) (bytes : List Byte) : Port :=
  { port with
    rx := .header, byteGapRunning := true, headerCount := bytes.length, payloadCount := 0, remaining := 0
    checkHigh := none, tail := some bytes }

/-- The receiver with the three header bytes `head` and the payload bytes `payload` written, of a frame of declared length `declared`. -/
def Port.inBody (port : Port) (head payload : List Byte) (declared : Nat) : Port :=
  { port with
    rx := if payload.length = declared then .check else .payload
    byteGapRunning := true, headerCount := 3, payloadCount := payload.length, remaining := 0
    checkHigh := none, tail := some (head ++ payload) }

/-- A character turns the port `x` into `x'`, whatever the rest of the part. -/
def Takes (p : PortNo) (x : Port) (v : Byte) (x' : Port) : Prop :=
  ∀ u : State, u.ports[p] = x → takeCharacter u p v false = u.setPort p x'

section Frame

variable {p : PortNo} {port : Port} {v : Byte}

theorem takes_sof (hunt : port.rx = .hunt) : Takes p port 0xA6#8 (port.inHeader []) := by
  rintro u rfl
  exact takeCharacter_hunt_sof hunt

theorem takes_header {bytes : List Byte} (early : bytes.length < 2) (passes : (port.inHeader bytes).passes v)
    (room : (port.inHeader bytes).usedBytes < 512) :
    Takes p (port.inHeader bytes) v (port.inHeader (bytes ++ [v])) := by
  intro u same
  have count : (port.inHeader bytes).headerCount = bytes.length := rfl
  rw [takeCharacter_header (by rw [same]; rfl), takeHeader_of_passes (by rwa [same]),
    writeHeader_of_room (by rwa [same]) (by rw [same, count]; omega), same, Port.withHeader, count, if_pos early,
    Port.inHeader, Port.inHeader, List.length_append]
  rfl

theorem takes_length {bytes : List Byte} (third : bytes.length = 2) (passes : (port.inHeader bytes).passes v)
    (room : (port.inHeader bytes).usedBytes < 512) :
    Takes p (port.inHeader bytes) v (port.inBody (bytes ++ [v]) [] v.toNat) := by
  intro u same
  have count : (port.inHeader bytes).headerCount = 2 := third
  have zero : v = 0 ↔ ([] : List Byte).length = v.toNat :=
    ⟨fun h => by rw [h]; rfl, fun h => BitVec.eq_of_toNat_eq h.symm⟩
  rw [takeCharacter_header (by rw [same]; rfl), takeHeader_of_passes (by rwa [same]),
    writeHeader_of_room (by rwa [same]) (by rw [same, count]), same, Port.withHeader, count, if_neg (by decide),
    Port.inBody, List.append_nil]
  simp only [zero]
  rfl

theorem takes_payload {head payload : List Byte} {declared : Nat} (three : head.length = 3)
    (length : (head.getD 2 0).toNat = declared) (inside : payload.length < declared)
    (room : (port.inBody head payload declared).usedBytes < 512) :
    Takes p (port.inBody head payload declared) v (port.inBody head (payload ++ [v]) declared) := by
  intro u same
  have receiving : (port.inBody head payload declared).rx = .payload := if_neg inside.ne
  have tail : ((port.inBody head payload declared).tail.getD []) = head ++ payload := rfl
  have declares : (port.inBody head payload declared).declared = declared := by
    rw [Port.declared, tail, List.getD_append _ _ _ _ (by omega), length]
  have count : (port.inBody head payload declared).payloadCount = payload.length := rfl
  rw [takeCharacter_payload (by rw [same, receiving]), takePayload_of_room (by rwa [same])
    (by rw [same, tail, List.length_append]; omega), same, Port.withPayload, declares, receiving, tail, count,
    Port.inBody, Port.inBody, List.length_append, List.append_assoc]
  rfl

theorem takes_checkHigh {head payload : List Byte} {declared : Nat} (complete : payload.length = declared) :
    Takes p (port.inBody head payload declared) v { port.inBody head payload declared with checkHigh := some v } := by
  intro u same
  rw [takeCharacter_check (by rw [same]; exact if_pos complete), takeCheck_first (by rw [same]; rfl), same]
  rfl

theorem takes_checkLow {head payload : List Byte} {declared : Nat} {hi : Byte} (complete : payload.length = declared)
    (good : hi ++ v = crc16 (head ++ payload)) :
    Takes p { port.inBody head payload declared with checkHigh := some hi } v
      (Port.settle
        { port with
          fifo := port.fifo ++ [recordOf (head ++ payload)]
          counters := { port.counters with good := bump port.counters.good } } .hunt) := by
  intro u same
  rw [takeCharacter_check (by rw [same]; exact if_pos complete), takeCheck_good (hi := hi) (by rw [same])
    (by rw [same]; exact good), same]
  rfl

end Frame

/-! ### A run of characters -/

/-- The commands of characters that arrive without the framing indication. -/
def arrivals (p : PortNo) (bytes : List Byte) : List Instr := bytes.map fun v => .characterArrival p v false

section Run

variable {s : State} {p : PortNo}

theorem run_character (working : s.held = false) {x x' : Port} {v : Byte} (takes : Takes p x v x') (k : Nat)
    (rest : List Instr) :
    Host.Core.run Sys2Proof.core (k + 1) { s.setPort p x with pending := .characterArrival p v false :: rest }
      = Host.Core.run Sys2Proof.core k { s.setPort p x' with pending := rest } := by
  have stepped : step { s.setPort p x with pending := .characterArrival p v false :: rest }
      = .next { s.setPort p x' with pending := rest } := by
    rw [stepRunsFrontCommand (.characterArrival p v false) { s.setPort p x with pending := rest },
      exec_characterArrival_of_working (s := { s.setPort p x with pending := rest }) working]
    refine congrArg Host.Outcome.next ?_
    rw [takes { s.setPort p x with pending := rest } (by
      change (s.setPort p x).ports[p] = x
      rw [State.setPort_get, if_pos rfl])]
    exact congrArg (fun u : State => { u with pending := rest }) (State.setPort_setPort s p x x')
  change (match step { s.setPort p x with pending := .characterArrival p v false :: rest } with
    | .next u => Host.Core.run Sys2Proof.core k u
    | .fault r => .fault r
    | .refused r => .refused r) = _
  rw [stepped]

/-- The payload of a frame, byte by byte. -/
theorem run_payload (working : s.held = false) {port : Port} {head : List Byte} {declared : Nat}
    (three : head.length = 3) (length : (head.getD 2 0).toNat = declared)
    (fits : (port.fifo.map FieldRecord.size).sum + 3 + declared ≤ 512) (done todo : List Byte)
    (whole : done.length + todo.length = declared) (k : Nat) (rest : List Instr) :
    Host.Core.run Sys2Proof.core (todo.length + k)
        { s.setPort p (port.inBody head done declared) with pending := arrivals p todo ++ rest }
      = Host.Core.run Sys2Proof.core k
        { s.setPort p (port.inBody head (done ++ todo) declared) with pending := rest } := by
  induction todo generalizing done with
  | nil => rw [List.append_nil, List.length_nil, Nat.zero_add]; rfl
  | cons v todo ih =>
    rw [List.length_cons] at whole
    have room : (port.inBody head done declared).usedBytes < 512 := by
      have used : (port.inBody head done declared).usedBytes
          = (port.fifo.map FieldRecord.size).sum + (head ++ done).length := rfl
      rw [used, List.length_append]
      omega
    have count : (v :: todo).length + k = (todo.length + k) + 1 := by rw [List.length_cons]; omega
    have stays := ih (done ++ [v]) (by rw [List.length_append, List.length_singleton]; omega)
    rw [List.append_assoc, List.singleton_append] at stays
    rw [count, ← stays]
    exact run_character working (takes_payload three length (by omega) room) _ _

end Run

/-! ### The frame of a record -/

/-- The fields of header byte 1 as the transmitter builds it (R175). -/
theorem header1_fields (channel : BitVec 4) (endFlag urgent : Bool) :
    (channel ++ 0#2 ++ BitVec.ofBool endFlag ++ BitVec.ofBool urgent).extractLsb' 4 4 = channel
      ∧ (channel ++ 0#2 ++ BitVec.ofBool endFlag ++ BitVec.ofBool urgent).getLsbD 0 = urgent
      ∧ (channel ++ 0#2 ++ BitVec.ofBool endFlag ++ BitVec.ofBool urgent).getLsbD 1 = endFlag
      ∧ (channel ++ 0#2 ++ BitVec.ofBool endFlag ++ BitVec.ofBool urgent).getLsbD 3 = false
      ∧ (channel ++ 0#2 ++ BitVec.ofBool endFlag ++ BitVec.ofBool urgent).getLsbD 2 = false := by
  revert channel endFlag urgent
  decide

/-- A port with one more complete record and one more good frame (R8). -/
def Port.withGood (port : Port) (r : FieldRecord) : Port :=
  { port with
    fifo := port.fifo ++ [r], counters := { port.counters with good := bump port.counters.good } }

theorem be16_append (w : Word16) : w.extractLsb' 8 8 ++ w.extractLsb' 0 8 = w := by
  ext i hi
  simp only [BitVec.getElem_append, BitVec.getElem_extractLsb']
  split
  · simp only [Nat.zero_add, BitVec.getLsbD_eq_getElem hi]
  · rename_i high
    have back : 8 + (i - 8) = i := Nat.add_sub_cancel' (Nat.le_of_not_lt high)
    simp only [back, BitVec.getLsbD_eq_getElem hi]

/-- A field frame with a permitted node number, clear spare bits and a permitted length is received whole by a receiver in HUNT with room for it. -/
theorem run_fieldFrame {s : State} {p : PortNo} (working : s.held = false) (sound : PortSound s.ports[p])
    (hunt : s.ports[p].rx = .hunt) (idle : s.pending = []) {node header1 : Byte} {payload : List Byte}
    (low : 1 ≤ node.toNat) (high : node.toNat ≤ 254) (spare3 : header1.getLsbD 3 = false)
    (spare2 : header1.getLsbD 2 = false) (fits : payload.length ≤ s.ports[p].maxLen.toNat)
    (room : s.ports[p].usedBytes + 3 + payload.length ≤ 512) :
    Host.Core.run Sys2Proof.core (fieldFrame node header1 payload).length
        { s with pending := arrivals p (fieldFrame node header1 payload) }
      = .next (s.setPort p
          { s.ports[p] with
            fifo := s.ports[p].fifo ++ [⟨node, header1, payload⟩]
            counters := { s.ports[p].counters with good := bump s.ports[p].counters.good } }) := by
  have settled : s.ports[p] = s.ports[p].settle .hunt := by
    have receiver := sound.receiver
    unfold ReceiverSound at receiver
    rwa [hunt] at receiver
  have used : s.ports[p].usedBytes = (s.ports[p].fifo.map FieldRecord.size).sum := by
    rw [settled]
    rfl
  have usedHeader (bytes : List Byte) :
      (s.ports[p].inHeader bytes).usedBytes = (s.ports[p].fifo.map FieldRecord.size).sum + bytes.length := rfl
  have length : (byteOf payload.length).toNat = payload.length := by
    have := sound.maxLen_le
    rw [byteOf, BitVec.toNat_ofNat, Nat.mod_eq_of_lt (by omega)]
  have start : { s with pending := arrivals p (fieldFrame node header1 payload) }
      = { s.setPort p s.ports[p] with pending := arrivals p (fieldFrame node header1 payload) } := by
    rw [State.setPort_self]
  have finish : s.setPort p (Port.settle
        { s.ports[p] with
          fifo := s.ports[p].fifo ++ [recordOf ([node, header1, byteOf payload.length] ++ payload)]
          counters := { s.ports[p].counters with good := bump s.ports[p].counters.good } } .hunt)
      = s.setPort p
        { s.ports[p] with
          fifo := s.ports[p].fifo ++ [⟨node, header1, payload⟩]
          counters := { s.ports[p].counters with good := bump s.ports[p].counters.good } } := by
    have kept := congrArg (Port.withGood · ⟨node, header1, payload⟩) settled
    exact (congrArg (s.setPort p) kept).symm
  have notZero : node ≠ 0 := by rintro rfl; exact absurd low (by decide)
  have notBroadcast : node ≠ 255 := by rintro rfl; exact absurd high (by decide)
  have source : Takes p (s.ports[p].inHeader []) node (s.ports[p].inHeader [node]) :=
    takes_header (bytes := []) (by simp) (.inl ⟨rfl, notZero, notBroadcast⟩) (by simp only [usedHeader, List.length_nil]; omega)
  have flags : Takes p (s.ports[p].inHeader [node]) header1 (s.ports[p].inHeader [node, header1]) :=
    takes_header (bytes := [node]) (by simp) (.inr (.inl ⟨rfl, spare3, spare2⟩))
      (by simp only [usedHeader, List.length_singleton]; omega)
  have declares : Takes p (s.ports[p].inHeader [node, header1]) (byteOf payload.length)
      (s.ports[p].inBody [node, header1, byteOf payload.length] [] (byteOf payload.length).toNat) :=
    takes_length (bytes := [node, header1]) rfl (.inr (.inr ⟨rfl, length.trans_le fits⟩))
      (by simp only [usedHeader, List.length_cons, List.length_nil]; omega)
  rw [length] at declares
  have good := be16_append (crc16 ([node, header1, byteOf payload.length] ++ payload))
  have count : (fieldFrame node header1 payload).length = payload.length + 2 + 1 + 1 + 1 + 1 := by
    simp [fieldFrame, be16]
  have characters : arrivals p (fieldFrame node header1 payload) =
      .characterArrival p 0xA6#8 false :: .characterArrival p node false :: .characterArrival p header1 false
        :: .characterArrival p (byteOf payload.length) false
        :: (arrivals p payload ++ arrivals p (be16 (crc16 ([node, header1, byteOf payload.length] ++ payload)))) := by
    simp [fieldFrame, arrivals]
  rw [start, count, characters]
  refine (run_character working (takes_sof hunt) _ _).trans ?_
  refine (run_character working source _ _).trans ?_
  refine (run_character working flags _ _).trans ?_
  refine (run_character working declares _ _).trans ?_
  refine (run_payload working (head := [node, header1, byteOf payload.length]) rfl length (by omega) [] payload (Nat.zero_add _) 2 _).trans ?_
  refine (run_character working (takes_checkHigh rfl) _ _).trans ?_
  refine (run_character working (takes_checkLow rfl good) _ _).trans ?_
  refine congrArg Host.Outcome.next (Eq.trans ?_ finish)
  exact congrArg (fun queue => ({ s.setPort p _ with pending := queue } : State)) idle.symm

/-- Settles O23: SOF, three header bytes, the payload by induction, and the two check bytes. -/
theorem fieldFrameIsReceivedWhole : Obligations.FieldFrameIsReceivedWhole := by
  intro s p r working sound hunt idle low high fits room
  obtain ⟨channel, urgent, endFlag, spare3, spare2⟩ := header1_fields r.channel r.endFlag r.urgent
  refine ⟨⟨r.node, r.channel ++ 0#2 ++ BitVec.ofBool r.endFlag ++ BitVec.ofBool r.urgent, r.payload⟩, rfl, channel,
    urgent, endFlag, rfl, ?_⟩
  have frame : r.frame = fieldFrame r.node (r.channel ++ 0#2 ++ BitVec.ofBool r.endFlag ++ BitVec.ofBool r.urgent)
      r.payload := rfl
  rw [frame]
  generalize r.channel ++ 0#2 ++ BitVec.ofBool r.endFlag ++ BitVec.ofBool r.urgent = header1 at *
  exact run_fieldFrame working sound hunt idle low high spare3 spare2 fits room

end Sys2Proof.Machine
end

section
/-! Proofs: every step keeps each port sound, and the held record within what a field frame carries (R2, R4, R16, R21, R128, R131). -/

namespace Sys2Proof.Machine

open Safety

/-! ### One port -/

section OnePort

variable {port next : Port}

/-- The complete records take no more than the FIFO with its partial record. -/
theorem fifo_le_usedBytes (port : Port) : (port.fifo.map FieldRecord.size).sum ≤ port.usedBytes := Nat.le_add_right _ _

theorem usedBytes_of_no_tail (h : port.tail = none) : port.usedBytes = (port.fifo.map FieldRecord.size).sum := by
  rw [Port.usedBytes, h]
  rfl

/-- A port whose receiver alone has changed, and still receives. -/
theorem portSound_of_receiver (h : PortSound port) (on : port.rx ≠ .off)
    (enabled : next.enabled = port.enabled) (maxLen : next.maxLen = port.maxLen) (fifo : next.fifo = port.fifo)
    (queue : next.txQueue = port.txQueue) (sending : next.sending = port.sending) (still : next.rx ≠ .off)
    (receiver : ReceiverSound next) (fits : next.usedBytes ≤ Config.fifoBytes) : PortSound next where
  maxLen_le := by rw [maxLen]; exact h.maxLen_le
  off_iff := by
    rw [enabled]
    exact iff_of_false still (mt h.off_iff.mpr on)
  receiver := receiver
  fifo_fits := fits
  fifo_payloads := by rw [fifo]; exact h.fifo_payloads
  queue_places := by rw [queue]; exact h.queue_places
  idle_empty := by rw [sending, queue]; exact h.idle_empty
  disabled_idle := by rw [enabled, sending]; exact h.disabled_idle

theorem portSound_counters (h : PortSound port) (c : PortCounters) : PortSound { port with counters := c } where
  maxLen_le := h.maxLen_le
  off_iff := h.off_iff
  receiver := by
    have receiver := h.receiver
    unfold ReceiverSound at receiver ⊢
    dsimp only at receiver ⊢
    split at receiver
    · exact congrArg (fun x : Port => { x with counters := c }) receiver
    · exact congrArg (fun x : Port => { x with counters := c }) receiver
    all_goals exact receiver
  fifo_fits := h.fifo_fits
  fifo_payloads := h.fifo_payloads
  queue_places := h.queue_places
  idle_empty := h.idle_empty
  disabled_idle := h.disabled_idle

theorem portSound_settle (h : PortSound port) (on : port.rx ≠ .off) : PortSound (port.settle .hunt) :=
  portSound_of_receiver h on rfl rfl rfl rfl rfl nofun rfl ((fifo_le_usedBytes port).trans h.fifo_fits)

theorem portSound_failToHunt (h : PortSound port) (on : port.rx ≠ .off) (e : RxError) : PortSound (port.failToHunt e) :=
  portSound_settle (portSound_counters h _) on

theorem portSound_startDiscard (h : PortSound port) (on : port.rx ≠ .off) {n : Nat} (least : 1 ≤ n) (most : n ≤ 257) :
    PortSound (port.startDiscard n) :=
  portSound_of_receiver h on rfl rfl rfl rfl rfl nofun ⟨rfl, rfl, least, most⟩
    ((fifo_le_usedBytes port).trans h.fifo_fits)

theorem portSound_failToDiscard (h : PortSound port) (on : port.rx ≠ .off) (e : RxError) {n : Nat} (least : 1 ≤ n)
    (most : n ≤ 257) : PortSound (port.failToDiscard e n) :=
  portSound_startDiscard (port := port.countError e) (portSound_counters h _) on least most

theorem portSound_startFrame (h : PortSound port) (on : port.rx ≠ .off) : PortSound port.startFrame :=
  portSound_of_receiver h on rfl rfl rfl rfl rfl nofun ⟨rfl, Nat.zero_le 2, rfl, rfl, rfl⟩
    ((fifo_le_usedBytes port).trans h.fifo_fits)

/-! What a sound receiver holds, by its state. -/

theorem header_sound (h : PortSound port) (header : port.rx = .header) :
    port.headerCount ≤ 2 ∧ (∃ bytes, port.tail = some bytes ∧ bytes.length = port.headerCount)
      ∧ port.checkHigh = none ∧ port.payloadCount = 0 := by
  have receiver := h.receiver
  unfold ReceiverSound at receiver
  rw [header] at receiver
  obtain ⟨_, count, tail, check, payload⟩ := receiver
  exact ⟨count, Option.map_eq_some_iff.mp tail, check, payload⟩

theorem payload_sound (h : PortSound port) (payload : port.rx = .payload) :
    (∃ bytes, port.tail = some bytes ∧ bytes.length = 3 + port.payloadCount) ∧ port.payloadCount < port.declared
      ∧ port.declared ≤ port.maxLen.toNat ∧ port.checkHigh = none := by
  have receiver := h.receiver
  unfold ReceiverSound at receiver
  rw [payload] at receiver
  obtain ⟨_, tail, inside, declared, check⟩ := receiver
  exact ⟨Option.map_eq_some_iff.mp tail, inside, declared, check⟩

theorem check_sound (h : PortSound port) (check : port.rx = .check) :
    (∃ bytes, port.tail = some bytes ∧ bytes.length = 3 + port.declared) ∧ port.declared ≤ port.maxLen.toNat := by
  have receiver := h.receiver
  unfold ReceiverSound at receiver
  rw [check] at receiver
  obtain ⟨_, tail, declared⟩ := receiver
  exact ⟨Option.map_eq_some_iff.mp tail, declared⟩

theorem discard_sound (h : PortSound port) (discard : port.rx = .discard) :
    port.tail = none ∧ 1 ≤ port.remaining ∧ port.remaining ≤ 257 := by
  have receiver := h.receiver
  unfold ReceiverSound at receiver
  rw [discard] at receiver
  exact receiver.2

theorem usedBytes_of_tail {bytes : List Byte} (h : port.tail = some bytes) :
    port.usedBytes = (port.fifo.map FieldRecord.size).sum + bytes.length := by
  rw [Port.usedBytes, h]
  rfl

/-- The receiver once a header byte that passes has been written (R6). -/
theorem portSound_withHeader (h : PortSound port) (header : port.rx = .header) {v : Byte} (passes : port.passes v)
    (room : port.usedBytes < 512) : PortSound (port.withHeader v) := by
  obtain ⟨count, ⟨bytes, tail, length⟩, check, payload⟩ := header_sound h header
  have written : (port.withHeader v).tail = some (bytes ++ [v]) := by rw [Port.withHeader, tail]; rfl
  have fits : (port.withHeader v).usedBytes ≤ Config.fifoBytes := by
    rw [usedBytes_of_tail tail] at room
    have same : (port.withHeader v).fifo = port.fifo := rfl
    rw [usedBytes_of_tail written, same, List.length_append, List.length_singleton]
    exact room
  by_cases early : port.headerCount < 2
  · have stays : (port.withHeader v).rx = .header := (if_pos early).trans header
    refine portSound_of_receiver h (by rw [header]; decide) rfl rfl rfl rfl rfl (by rw [stays]; decide) ?_ fits
    unfold ReceiverSound
    rw [stays]
    refine ⟨rfl, early, ?_, check, payload⟩
    rw [written, Option.map_some, List.length_append, length]
    rfl
  · have third : port.headerCount = 2 := by omega
    have declared : (port.withHeader v).declared = v.toNat := by
      rw [Port.declared, written, Option.getD_some, List.getD_append_right _ _ _ _ (by omega), length, third]
      rfl
    have lengthFits : v.toNat ≤ port.maxLen.toNat := by
      obtain ⟨first, _⟩ | ⟨second, _⟩ | ⟨_, fits⟩ := passes
      · omega
      · omega
      · exact fits
    have size : (port.withHeader v).tail.map List.length = some 3 := by
      rw [written, Option.map_some, List.length_append, length, third]
      rfl
    by_cases zero : v = 0
    · have checks : (port.withHeader v).rx = .check := (if_neg early).trans (if_pos zero)
      refine portSound_of_receiver h (by rw [header]; decide) rfl rfl rfl rfl rfl (by rw [checks]; decide) ?_ fits
      unfold ReceiverSound
      rw [checks]
      refine ⟨rfl, ?_, ?_⟩
      · rw [size, declared, zero]
        rfl
      · rw [declared]
        exact lengthFits
    · have receives : (port.withHeader v).rx = .payload := (if_neg early).trans (if_neg zero)
      have count : (port.withHeader v).payloadCount = 0 := payload
      refine portSound_of_receiver h (by rw [header]; decide) rfl rfl rfl rfl rfl (by rw [receives]; decide) ?_ fits
      unfold ReceiverSound
      rw [receives]
      refine ⟨rfl, ?_, ?_, ?_, check⟩
      · rw [size, count]
      · rw [declared, count]
        exact Nat.pos_of_ne_zero fun h => zero (BitVec.eq_of_toNat_eq h)
      · rw [declared]
        exact lengthFits

/-- The receiver once a payload byte has been written (R7). -/
theorem portSound_withPayload (h : PortSound port) (payload : port.rx = .payload) (v : Byte)
    (room : port.usedBytes < 512) : PortSound (port.withPayload v) := by
  obtain ⟨⟨bytes, tail, length⟩, inside, lengthFits, check⟩ := payload_sound h payload
  have written : (port.withPayload v).tail = some (bytes ++ [v]) := by rw [Port.withPayload, tail]; rfl
  have declared : (port.withPayload v).declared = port.declared :=
    declared_writeByte (by rw [tail, Option.getD_some]; omega) v
  have size : (port.withPayload v).tail.map List.length = some (3 + (port.payloadCount + 1)) := by
    rw [written, Option.map_some, List.length_append, length]
    rfl
  have fits : (port.withPayload v).usedBytes ≤ Config.fifoBytes := by
    rw [usedBytes_of_tail tail] at room
    have same : (port.withPayload v).fifo = port.fifo := rfl
    rw [usedBytes_of_tail written, same, List.length_append, List.length_singleton]
    exact room
  by_cases complete : port.payloadCount + 1 = port.declared
  · have checks : (port.withPayload v).rx = .check := if_pos complete
    refine portSound_of_receiver h (by rw [payload]; decide) rfl rfl rfl rfl rfl (by rw [checks]; decide) ?_ fits
    unfold ReceiverSound
    rw [checks]
    refine ⟨rfl, ?_, ?_⟩
    · rw [size, declared, complete]
    · rw [declared]
      exact lengthFits
  · have stays : (port.withPayload v).rx = .payload := (if_neg complete).trans payload
    refine portSound_of_receiver h (by rw [payload]; decide) rfl rfl rfl rfl rfl (by rw [stays]; decide) ?_ fits
    unfold ReceiverSound
    rw [stays]
    refine ⟨rfl, size, ?_, ?_, check⟩
    · rw [declared]
      exact Nat.lt_of_le_of_ne inside complete
    · rw [declared]
      exact lengthFits

theorem portSound_withCheckHigh (h : PortSound port) (check : port.rx = .check) (v : Byte) :
    PortSound { port with checkHigh := some v, byteGapRunning := true } := by
  refine portSound_of_receiver h (by rw [check]; decide) rfl rfl rfl rfl rfl (by rw [check]; decide) ?_ h.fifo_fits
  have receiver := h.receiver
  unfold ReceiverSound at receiver ⊢
  simp only [check] at receiver ⊢
  exact ⟨trivial, receiver.2⟩

/-- A complete record takes the bytes that its partial record took (R16). -/
theorem portSound_withRecord (h : PortSound port) (check : port.rx = .check) : PortSound port.withRecord := by
  obtain ⟨⟨bytes, tail, length⟩, lengthFits⟩ := check_sound h check
  have on : port.rx ≠ .off := by rw [check]; decide
  have records : port.withRecord.fifo = port.fifo ++ [recordOf bytes] := by
    simp only [Port.withRecord, Port.settle, tail, Option.getD_some]
  have payload : (recordOf bytes).payload.length = port.declared := by
    rw [recordOf, List.length_drop]
    omega
  have used : port.withRecord.usedBytes = port.usedBytes := by
    rw [usedBytes_of_no_tail rfl, records, usedBytes_of_tail tail, List.map_append, List.sum_append, List.map_singleton,
      List.sum_singleton, FieldRecord.size, payload, length]
  exact
    { maxLen_le := h.maxLen_le
      off_iff := iff_of_false nofun (mt h.off_iff.mpr on)
      receiver := rfl
      fifo_fits := by rw [used]; exact h.fifo_fits
      fifo_payloads := fun r stored => by
        rw [records, List.mem_append, List.mem_singleton] at stored
        obtain old | rfl := stored
        · exact h.fifo_payloads r old
        · rw [payload]
          exact lengthFits.trans h.maxLen_le
      queue_places := h.queue_places
      idle_empty := h.idle_empty
      disabled_idle := h.disabled_idle }

/-- The oldest complete record leaves (R22). -/
theorem portSound_take (h : PortSound port) {r : FieldRecord} {rest : List FieldRecord} (fifo : port.fifo = r :: rest) :
    PortSound { port with fifo := rest } where
  maxLen_le := h.maxLen_le
  off_iff := h.off_iff
  receiver := by
    have receiver := h.receiver
    unfold ReceiverSound at receiver ⊢
    dsimp only at receiver ⊢
    split at receiver
    · exact congrArg (fun x : Port => { x with fifo := rest }) receiver
    · exact congrArg (fun x : Port => { x with fifo := rest }) receiver
    all_goals exact receiver
  fifo_fits := by
    have fits := h.fifo_fits
    rw [Port.usedBytes, fifo, List.map_cons, List.sum_cons] at fits
    exact le_trans (Nat.add_le_add_right (Nat.le_add_left _ _) _) fits
  fifo_payloads q stored := h.fifo_payloads q (fifo ▸ List.mem_cons_of_mem _ stored)
  queue_places := h.queue_places
  idle_empty := h.idle_empty
  disabled_idle := h.disabled_idle

/-! The transmitter. -/

/-- The receiver is sound whatever queue and transmission are. -/
theorem receiverSound_transmitter (h : ReceiverSound port) (queue : List PortTxRecord) (sending : Option PortTxRecord)
    (c : PortCounters) : ReceiverSound { port with txQueue := queue, sending := sending, counters := c } := by
  unfold ReceiverSound at h ⊢
  dsimp only at h ⊢
  split at h
  · exact congrArg (fun x : Port => { x with txQueue := queue, sending := sending, counters := c }) h
  · exact congrArg (fun x : Port => { x with txQueue := queue, sending := sending, counters := c }) h
  all_goals exact h

theorem portSound_transmitter (h : PortSound port) {queue : List PortTxRecord} {sending : Option PortTxRecord}
    (c : PortCounters) (places : queue.length ≤ Config.portQueuePlaces) (idle : sending = none → queue = [])
    (disabled : port.enabled = false → sending = none) :
    PortSound { port with txQueue := queue, sending := sending, counters := c } where
  maxLen_le := h.maxLen_le
  off_iff := h.off_iff
  receiver := receiverSound_transmitter h.receiver queue sending c
  fifo_fits := h.fifo_fits
  fifo_payloads := h.fifo_payloads
  queue_places := places
  idle_empty := idle
  disabled_idle := disabled

/-- The end of a frame in SENDING, with the next start (R129). -/
theorem portSound_sent (h : PortSound port) {r : PortTxRecord} (sending : port.sending = some r) :
    PortSound port.sent.tryStart := by
  have enabled : port.enabled = true := by
    cases e : port.enabled with
    | true => rfl
    | false => exact nomatch sending.symm.trans (h.disabled_idle e)
  rw [tryStart_of_sent]
  cases queue : port.txQueue with
  | nil =>
    have next := portSound_transmitter (queue := []) (sending := none) h port.sent.counters (Nat.zero_le _)
      (fun _ => rfl) fun _ => rfl
    rw [← queue] at next
    exact next
  | cons q rest =>
    have places := h.queue_places
    rw [queue, List.length_cons] at places
    have next := portSound_transmitter (queue := rest) (sending := some q) h port.sent.counters
      ((Nat.le_succ _).trans places) nofun fun off => nomatch enabled.symm.trans off
    dsimp only
    rw [if_pos enabled]
    exact next

/-- A record joins the queue of an enabled port with a free place, with the start that may make possible (R125, R128). -/
theorem portSound_enqueue (h : PortSound port) (enabled : port.enabled = true)
    (free : port.txQueue.length < Config.portQueuePlaces) (r : PortTxRecord) :
    PortSound (Port.tryStart { port with txQueue := port.txQueue ++ [r] }) := by
  have notOff (off : port.enabled = false) : False := nomatch enabled.symm.trans off
  by_cases idle : port.sending = none
  · have empty := h.idle_empty idle
    have starts : Port.tryStart { port with txQueue := port.txQueue ++ [r] }
        = { port with txQueue := [], sending := some r } := by
      simp only [Port.tryStart, idle, empty, List.nil_append, enabled, if_true]
    rw [starts]
    exact portSound_transmitter h port.counters (Nat.zero_le _) nofun fun off => (notOff off).elim
  · obtain ⟨q, sending⟩ := Option.ne_none_iff_exists'.mp idle
    have stays : Port.tryStart { port with txQueue := port.txQueue ++ [r] }
        = { port with txQueue := port.txQueue ++ [r] } := by simp only [Port.tryStart, sending]
    rw [stays]
    exact portSound_transmitter (sending := port.sending) h port.counters (by rw [List.length_append]; exact free)
      (fun none => absurd none idle) fun off => (notOff off).elim

/-! Enable, disable, settings. -/

/-- A disabled port: OFF, nothing to send (R15, R130, R131). -/
theorem portSound_disabled (h : PortSound port) (c : PortCounters) (rate : BitRate) {maxLen : Byte}
    (range : maxLen.toNat ≤ 120) :
    PortSound
      { port.settle .off with
        enabled := false, sending := none, txQueue := [], counters := c, bitRate := rate, maxLen := maxLen } where
  maxLen_le := range
  off_iff := iff_of_true rfl rfl
  receiver := rfl
  fifo_fits := (fifo_le_usedBytes port).trans h.fifo_fits
  fifo_payloads := h.fifo_payloads
  queue_places := Nat.zero_le _
  idle_empty _ := rfl
  disabled_idle _ := rfl

theorem off_sound (h : PortSound port) (disabled : port.enabled = false) : port = port.settle .off := by
  have receiver := h.receiver
  unfold ReceiverSound at receiver
  rwa [h.off_iff.mpr disabled] at receiver

theorem receiverSound_of_off (off : port.rx = .off) (settled : port = port.settle .off) : ReceiverSound port := by
  unfold ReceiverSound
  split
  case h_1 => exact settled
  all_goals
    rename_i other
    cases off.symm.trans other

/-- A disabled port takes new settings (R2 (2)). -/
theorem portSound_settings (h : PortSound port) (disabled : port.enabled = false) (rate : BitRate) {maxLen : Byte}
    (range : maxLen.toNat ≤ 120) : PortSound { port with bitRate := rate, maxLen := maxLen } := by
  have off := congrArg (fun x : Port => { x with bitRate := rate, maxLen := maxLen }) (off_sound h disabled)
  exact
    { maxLen_le := range
      off_iff := h.off_iff
      receiver := receiverSound_of_off (h.off_iff.mpr disabled) off
      fifo_fits := h.fifo_fits
      fifo_payloads := h.fifo_payloads
      queue_places := h.queue_places
      idle_empty := h.idle_empty
      disabled_idle := h.disabled_idle }

/-- A disabled port is enabled: HUNT, and nothing waits to be sent (R4, R128). -/
theorem portSound_enable (h : PortSound port) (disabled : port.enabled = false) :
    PortSound (Port.tryStart { port.settle .hunt with enabled := true }) := by
  have idle := h.disabled_idle disabled
  have stays : Port.tryStart { port.settle .hunt with enabled := true }
      = { port.settle .hunt with enabled := true } := by
    simp only [Port.tryStart, Port.settle, idle, h.idle_empty idle]
  rw [stays]
  exact
    { maxLen_le := h.maxLen_le
      off_iff := iff_of_false nofun nofun
      receiver := rfl
      fifo_fits := (fifo_le_usedBytes port).trans h.fifo_fits
      fifo_payloads := h.fifo_payloads
      queue_places := h.queue_places
      idle_empty := h.idle_empty
      disabled_idle := nofun }

end OnePort

/-! ### The ports of the part -/

section Ports

variable {c : Instr} {s t : State}

/-- Every port is sound. -/
def PortsFit (s : State) : Prop := ∀ p : PortNo, PortSound s.ports[p]

theorem PortsFit.congr (h : PortsFit s) (ports : t.ports = s.ports) : PortsFit t := by
  unfold PortsFit
  rw [ports]
  exact h

theorem PortsFit.setPort (h : PortsFit s) {p : PortNo} {port : Port} (sound : PortSound port) :
    PortsFit (s.setPort p port) := by
  intro q
  rw [State.setPort_get]
  split
  · exact sound
  · exact h q

theorem PortsFit.reportOverflow (h : PortsFit s) (p : PortNo) : PortsFit (reportOverflow s p) := by
  unfold Machine.reportOverflow
  split
  · exact h.congr (congrArg State.ports (raise_reach { s with intakeArmed := s.intakeArmed.set p.val false p.isLt }
      (.intakeOverflow p)) :)
  · exact h

theorem PortsFit.reportUndelivered (h : PortsFit s) (p : PortNo) (r : PortTxRecord) (reason : UndeliveredReason) :
    PortsFit (reportUndelivered s p r reason) :=
  h.congr (congrArg State.ports (reportUndelivered_reach s p r reason) :)

theorem Port.receives_on {port : Port} (reception : port.receives) : port.rx ≠ .off := by
  obtain h | h | h := reception <;> (rw [h]; decide)

theorem PortsFit.takeHeader (h : PortsFit s) {p : PortNo} (header : s.ports[p].rx = .header) (v : Byte) :
    PortsFit (takeHeader s p v) := by
  have sound := h p
  have on : s.ports[p].rx ≠ .off := by rw [header]; decide
  have count := (header_sound sound header).1
  have small := v.isLt
  have writes (passes : s.ports[p].passes v) : PortsFit (Machine.takeHeader s p v) := by
    rw [takeHeader_of_passes passes]
    by_cases room : s.ports[p].usedBytes < 512
    · rw [writeHeader_of_room room count]
      exact h.setPort (portSound_withHeader sound header passes room)
    · rw [writeHeader_of_full (Nat.le_of_not_lt room)]
      refine PortsFit.reportOverflow (h.setPort ?_) p
      unfold Port.overflowHeader
      split
      · exact portSound_failToDiscard sound on _ (by omega) (by omega)
      · exact portSound_failToHunt sound on _
  obtain first | second | third : s.ports[p].headerCount = 0 ∨ s.ports[p].headerCount = 1 ∨ s.ports[p].headerCount = 2 := by
    omega
  · by_cases bad : v = 0 ∨ v = 255
    · rw [takeHeader_of_badSource first bad]
      exact h.setPort (portSound_failToHunt sound on _)
    · exact writes (.inl ⟨first, not_or.mp bad⟩)
  · by_cases bad : v.getLsbD 3 = true ∨ v.getLsbD 2 = true
    · rw [takeHeader_of_badFlags second bad]
      exact h.setPort (portSound_failToHunt sound on _)
    · obtain ⟨clear3, clear2⟩ := not_or.mp bad
      exact writes (.inr (.inl ⟨second, Bool.eq_false_iff.mpr clear3, Bool.eq_false_iff.mpr clear2⟩))
  · by_cases bad : s.ports[p].maxLen.toNat < v.toNat
    · rw [takeHeader_of_badLength third bad]
      exact h.setPort (portSound_failToDiscard sound on _ (by omega) (by omega))
    · exact writes (.inr (.inr ⟨third, Nat.le_of_not_lt bad⟩))

theorem PortsFit.takePayload (h : PortsFit s) {p : PortNo} (payload : s.ports[p].rx = .payload) (v : Byte) :
    PortsFit (takePayload s p v) := by
  have sound := h p
  obtain ⟨⟨bytes, tail, length⟩, inside, declared, _⟩ := payload_sound sound payload
  by_cases room : s.ports[p].usedBytes < 512
  · rw [takePayload_of_room room (by rw [tail, Option.getD_some]; omega)]
    exact h.setPort (portSound_withPayload sound payload v room)
  · rw [takePayload_of_full (Nat.le_of_not_lt room)]
    have range := sound.maxLen_le
    exact PortsFit.reportOverflow (h.setPort
      (portSound_failToDiscard sound (by rw [payload]; decide) _ (by omega) (by omega))) p

theorem PortsFit.takeCheck (h : PortsFit s) {p : PortNo} (check : s.ports[p].rx = .check) (v : Byte) :
    PortsFit (takeCheck s p v) := by
  have sound := h p
  cases held : s.ports[p].checkHigh with
  | none =>
    rw [takeCheck_first held]
    exact h.setPort (portSound_withCheckHigh sound check v)
  | some hi =>
    by_cases good : hi ++ v = crc16 (s.ports[p].tail.getD [])
    · rw [takeCheck_good held good]
      exact h.setPort (portSound_withRecord sound check)
    · rw [takeCheck_bad held good]
      exact h.setPort (portSound_failToHunt sound (by rw [check]; decide) _)

theorem PortsFit.takeDiscard (h : PortsFit s) {p : PortNo} (discard : s.ports[p].rx = .discard) :
    PortsFit (takeDiscard s p) := by
  have sound := h p
  have on : s.ports[p].rx ≠ .off := by rw [discard]; decide
  obtain ⟨tail, _, most⟩ := discard_sound sound discard
  rw [takeDiscard_eq]
  refine h.setPort ?_
  split
  · exact portSound_settle sound on
  · refine portSound_of_receiver sound on rfl rfl rfl rfl rfl on ?_ sound.fifo_fits
    unfold ReceiverSound
    simp only [discard]
    exact ⟨trivial, tail, by omega, by omega⟩

theorem PortsFit.takeCharacter (h : PortsFit s) (p : PortNo) (v : Byte) (framing : Bool) :
    PortsFit (takeCharacter s p v framing) := by
  have sound := h p
  cases state : s.ports[p].rx with
  | off => rwa [takeCharacter_off state]
  | hunt =>
    by_cases sof : framing = false ∧ v = 0xA6#8
    · obtain ⟨rfl, rfl⟩ := sof
      rw [takeCharacter_hunt_sof state]
      exact h.setPort (portSound_startFrame sound (by rw [state]; decide))
    · rwa [takeCharacter_hunt_ignored state sof]
  | header =>
    cases framing with
    | true => rw [takeCharacter_framed (.inl state)]; exact h.setPort (portSound_failToHunt sound (by rw [state]; decide) _)
    | false => rw [takeCharacter_header state]; exact h.takeHeader state v
  | payload =>
    cases framing with
    | true =>
      rw [takeCharacter_framed (.inr (.inl state))]
      exact h.setPort (portSound_failToHunt sound (by rw [state]; decide) _)
    | false => rw [takeCharacter_payload state]; exact h.takePayload state v
  | check =>
    cases framing with
    | true =>
      rw [takeCharacter_framed (.inr (.inr state))]
      exact h.setPort (portSound_failToHunt sound (by rw [state]; decide) _)
    | false => rw [takeCharacter_check state]; exact h.takeCheck state v
  | discard =>
    cases framing with
    | true => rw [takeCharacter_framed_discard state]; exact h.setPort (portSound_settle sound (by rw [state]; decide))
    | false => rw [takeCharacter_discard state]; exact h.takeDiscard state

theorem PortsFit.byteGapExpiry (h : PortsFit s) (p : PortNo) : PortsFit (byteGapExpiry s p) := by
  have sound := h p
  cases running : s.ports[p].byteGapRunning with
  | false => rwa [byteGapExpiry_of_stopped running]
  | true =>
    have ends (reception : s.ports[p].receives) : PortsFit (Machine.byteGapExpiry s p) := by
      rw [byteGapExpiry_of_receives running reception]
      exact h.setPort (portSound_failToHunt sound (Port.receives_on reception) _)
    cases state : s.ports[p].rx with
    | off => rwa [byteGapExpiry_of_idle (.inr state)]
    | hunt => rwa [byteGapExpiry_of_idle (.inl state)]
    | header => exact ends (.inl state)
    | payload => exact ends (.inr (.inl state))
    | check => exact ends (.inr (.inr state))
    | discard =>
      rw [byteGapExpiry_of_discard running state]
      exact h.setPort (portSound_settle sound (by rw [state]; decide))

theorem PortsFit.fieldFrameDone (h : PortsFit s) (p : PortNo) : PortsFit (fieldFrameDone s p) := by
  cases sending : s.ports[p].sending with
  | none => rwa [fieldFrameDone_of_idle sending]
  | some r =>
    rw [fieldFrameDone_of_sending sending]
    have next : PortsFit (s.setPort p s.ports[p].sent.tryStart) := h.setPort (portSound_sent (h p) sending)
    split
    · exact next.congr (congrArg State.ports (raise_reach _ _) :)
    · exact next

/-! ### Enable and disable (R2, R15, R130, R131) -/

/-- The UNDELIVERED events of a disabled port's records, in their order (R132). -/
def reportAll (s : State) (p : PortNo) (l : List PortTxRecord) : State :=
  l.foldl (fun u r => reportUndelivered u p r .portOff) s

theorem reportUndelivered_setPort (s : State) (p q : PortNo) (port : Port) (r : PortTxRecord)
    (reason : UndeliveredReason) :
    reportUndelivered (s.setPort q port) p r reason = (reportUndelivered s p r reason).setPort q port := by
  unfold reportUndelivered
  split
  · exact raise_setPort s q port _
  · rfl

theorem reportAll_setPort (s : State) (p q : PortNo) (port : Port) (l : List PortTxRecord) :
    reportAll (s.setPort q port) p l = (reportAll s p l).setPort q port := by
  induction l generalizing s with
  | nil => rfl
  | cons r l ih =>
    change reportAll (reportUndelivered (s.setPort q port) p r .portOff) p l = _
    rw [reportUndelivered_setPort, ih]
    rfl

theorem reportAll_append (s : State) (p : PortNo) (l l' : List PortTxRecord) :
    reportAll s p (l ++ l') = reportAll (reportAll s p l) p l' := List.foldl_append

/-- Only records with CONFIRM are reported. -/
theorem reportAll_eq (s : State) (p : PortNo) (l : List PortTxRecord) :
    reportAll s p l = (l.filter PortTxRecord.confirm).foldl
      (fun u r => raise u (.undelivered p r.node r.channel r.seq r.index .portOff)) s := by
  rw [List.foldl_filter]
  rfl

theorem reportAll_reach (s : State) (p : PortNo) (l : List PortTxRecord) : EventReach s (reportAll s p l) := by
  induction l generalizing s with
  | nil => exact .refl s
  | cons r l ih => exact (reportUndelivered_reach s p r .portOff).trans (ih _)

/-- The port with `n` discarded records counted (R131). -/
def Port.countDiscards (port : Port) (n : Nat) : Port :=
  { port with counters := { port.counters with txDiscards := bumpBy port.counters.txDiscards n } }

theorem discardQueued_eq (s : State) (p : PortNo) (l : List PortTxRecord) :
    discardQueued s p l = (reportAll s p l).setPort p (s.ports[p].countDiscards l.length) := by
  induction l generalizing s with
  | nil => exact (State.setPort_self s p).symm
  | cons r l ih =>
    have counted : discardQueued s p (r :: l)
        = discardQueued ((reportUndelivered s p r .portOff).setPort p (s.ports[p].countDiscards 1)) p l :=
      congrArg (discardQueued · p l) (reportUndelivered_setPort s p p (s.ports[p].countDiscards 1) r .portOff)
    rw [counted, ih, State.setPort_get, if_pos rfl, reportAll_setPort, State.setPort_setPort]
    rfl

/-- The port with its frame in SENDING cut (R130). -/
def Port.cut (port : Port) : Port :=
  { port with
    sending := none
    counters :=
      { port.counters with
        txAborts := if port.sending.isSome then bump port.counters.txAborts else port.counters.txAborts } }

theorem Port.cut_of_idle {port : Port} (idle : port.sending = none) : port.cut = port := by
  obtain ⟨_, _, _, _, _, _, _, _, _, _, _, _, _, _⟩ := port
  cases idle
  rfl

theorem abortSending_eq (s : State) (p : PortNo) :
    abortSending s p = (reportAll s p s.ports[p].sending.toList).setPort p s.ports[p].cut := by
  by_cases idle : s.ports[p].sending = none
  · have unchanged : abortSending s p = s := by simp only [abortSending, idle]
    rw [unchanged, Port.cut_of_idle idle, idle]
    exact (State.setPort_self s p).symm
  · obtain ⟨r, sending⟩ := Option.ne_none_iff_exists'.mp idle
    have cuts : abortSending s p = reportUndelivered (s.setPort p s.ports[p].cut) p r .portOff := by
      simp only [abortSending, sending, State.modPort_eq, Port.cut, Option.isSome_some, if_true]
    rw [cuts, reportUndelivered_setPort, sending]
    rfl

/-- The receiver's part of a disable (R15). -/
theorem disableReceiver_eq {port : Port} (h : PortSound port) :
    port.disableReceiver =
      { port.settle .off with
        counters :=
          { port.counters with
            aborted := if port.rx = .header ∨ port.rx = .payload ∨ port.rx = .check then bump port.counters.aborted
              else port.counters.aborted } } := by
  unfold Port.disableReceiver
  split
  · rename_i off
    have settled := off_sound h (h.off_iff.mp off)
    rw [if_neg (by rw [off]; simp)]
    exact settled
  · rename_i hunt
    rw [if_neg (by rw [hunt]; simp)]
    rfl
  · rename_i header
    rw [if_pos (.inl header)]
    rfl
  · rename_i payload
    rw [if_pos (.inr (.inl payload))]
    rfl
  · rename_i check
    rw [if_pos (.inr (.inr check))]
    rfl
  · rename_i discard
    rw [if_neg (by rw [discard]; simp)]
    rfl

/-- A port after a disable: OFF, with reception, frame and queue dropped and counted (R15, R130, R131). -/
def Port.disabled (port : Port) : Port :=
  { port.settle .off with
    enabled := false, sending := none, txQueue := []
    counters :=
      { port.counters with
        aborted := if port.rx = .header ∨ port.rx = .payload ∨ port.rx = .check then bump port.counters.aborted
          else port.counters.aborted
        txAborts := if port.sending.isSome then bump port.counters.txAborts else port.counters.txAborts
        txDiscards := bumpBy port.counters.txDiscards port.txQueue.length } }

/-- The Port Transmit Queue emptied, its records counted and reported (R131). -/
def clearQueue (s : State) (p : PortNo) : State :=
  discardQueued (s.modPort p fun port => { port with txQueue := [] }) p s.ports[p].txQueue

theorem clearQueue_setPort (s : State) (p : PortNo) (port : Port) :
    clearQueue (s.setPort p port) p
      = (reportAll s p port.txQueue).setPort p (Port.countDiscards { port with txQueue := [] } port.txQueue.length) := by
  have get (u : State) (port : Port) : (u.setPort p port).ports[p] = port := by rw [State.setPort_get, if_pos rfl]
  simp only [clearQueue, State.modPort_eq, get]
  rw [discardQueued_eq, get, State.setPort_setPort, reportAll_setPort, State.setPort_setPort]

theorem disablePort_eq_clearQueue (s : State) (p : PortNo) :
    disablePort s p
      = clearQueue (abortSending (s.setPort p { s.ports[p].disableReceiver with enabled := false }) p) p := rfl

theorem disablePort_eq {p : PortNo} (h : PortSound s.ports[p]) :
    disablePort s p
      = (reportAll s p (s.ports[p].sending.toList ++ s.ports[p].txQueue)).setPort p s.ports[p].disabled := by
  have receiver := disableReceiver_eq h
  have sends : s.ports[p].disableReceiver.sending = s.ports[p].sending := by rw [receiver]; rfl
  have queue : s.ports[p].disableReceiver.txQueue = s.ports[p].txQueue := by rw [receiver]; rfl
  have get (u : State) (port : Port) : (u.setPort p port).ports[p] = port := by rw [State.setPort_get, if_pos rfl]
  have aborted : abortSending (s.setPort p { s.ports[p].disableReceiver with enabled := false }) p
      = (reportAll s p s.ports[p].sending.toList).setPort p
        (Port.cut { s.ports[p].disableReceiver with enabled := false }) := by
    rw [abortSending_eq, get, reportAll_setPort, State.setPort_setPort]
    exact congrArg (fun x : Option PortTxRecord => (reportAll s p x.toList).setPort p
      (Port.cut { s.ports[p].disableReceiver with enabled := false })) sends
  have cut : (Port.cut { s.ports[p].disableReceiver with enabled := false }).txQueue = s.ports[p].txQueue := queue
  have dropped : Port.countDiscards { Port.cut { s.ports[p].disableReceiver with enabled := false } with txQueue := [] }
      s.ports[p].txQueue.length = s.ports[p].disabled := by
    rw [receiver]
    rfl
  rw [disablePort_eq_clearQueue, aborted, clearQueue_setPort, cut, dropped, reportAll_append]

theorem enablePort_of_disabled {p : PortNo} (disabled : s.ports[p].enabled = false) :
    enablePort s p = s.setPort p (Port.tryStart { s.ports[p].settle .hunt with enabled := true }) := by
  simp only [enablePort, State.modPort_eq, disabled, Bool.false_eq_true, if_false]

theorem enablePort_of_enabled {p : PortNo} (enabled : s.ports[p].enabled = true) : enablePort s p = s := by
  simp only [enablePort, State.modPort_eq, enabled, if_true]
  exact State.setPort_self s p

theorem PortsFit.controlPort (h : PortsFit s) (p : PortNo) (enable : Bool) (rate : BitRate) {maxLen : Byte}
    (range : maxLen.toNat ≤ 120) : PortsFit (controlPort s p enable rate maxLen).state := by
  have get (u : State) (port : Port) : (u.setPort p port).ports[p] = port := by rw [State.setPort_get, if_pos rfl]
  unfold Machine.controlPort
  split
  · have reported : PortsFit (reportAll s p (s.ports[p].sending.toList ++ s.ports[p].txQueue)) :=
      h.congr (congrArg State.ports (reportAll_reach s p _) :)
    change PortsFit ((disablePort s p).setPort p { (disablePort s p).ports[p] with bitRate := rate, maxLen := maxLen })
    rw [disablePort_eq (h p), get, State.setPort_setPort]
    exact reported.setPort (portSound_disabled (h p) _ rate range)
  · split
    · rename_i disabled
      have settings := portSound_settings (h p) disabled rate range
      have disabled' : (writeSettings s p rate maxLen).ports[p].enabled = false := by
        unfold writeSettings
        rw [State.modPort_eq, get]
        exact disabled
      change PortsFit (enablePort (writeSettings s p rate maxLen) p)
      rw [enablePort_of_disabled disabled']
      have settled : PortsFit (writeSettings s p rate maxLen) := h.setPort settings
      exact settled.setPort (portSound_enable (settled p) disabled')
    · rename_i enabled
      have enabled : s.ports[p].enabled = true := by simpa using enabled
      split
      · change PortsFit (enablePort s p)
        rwa [enablePort_of_enabled enabled]
      · exact h

end Ports

end Sys2Proof.Machine
end

section
/-! Proofs: an admitted DISPATCH, port by port (R122 to R125), and with it that every step keeps the ports sound. -/

namespace Sys2Proof.Machine

open Safety

/-! ### Admission, port by port -/

/-- A port takes an entry: it is enabled, and the payload is within its maximum (R123). -/
def Port.takes (port : Port) (e : DispatchEntry) : Bool :=
  port.enabled && decide (e.payload.length ≤ port.maxLen.toNat)

/-- A record joins the queue, with the start that may make possible (R125). -/
def Port.enqueue (port : Port) (r : PortTxRecord) : Port := Port.tryStart { port with txQueue := port.txQueue ++ [r] }

/-- What an entry makes of port `p` (R124). -/
def Port.admitOne (port : Port) (p : PortNo) (seq : Word16) (index : Nat) (e : DispatchEntry) : Port :=
  if entryPort e = p ∧ port.takes e = true then port.enqueue (txRecordOf seq index e) else port

/-- What the entries of a frame, from an index on, make of port `p`. -/
def Port.admitAll (p : PortNo) (seq : Word16) : Nat → List DispatchEntry → Port → Port
  | _, [], port => port
  | index, e :: es, port => Port.admitAll p seq (index + 1) es (port.admitOne p seq index e)

section Admission

variable {s t : State} {port : Port} {p : PortNo} {seq : Word16}

theorem disposition_eq (s : State) (e : DispatchEntry) :
    disposition s e =
      if s.ports[entryPort e].takes e = true then .queue
      else if s.ports[entryPort e].enabled = true then .length else .portOff := by
  unfold disposition Port.takes
  dsimp only
  generalize s.ports[entryPort e] = port
  cases port.enabled with
  | false => simp
  | true =>
    by_cases long : port.maxLen.toNat < e.payload.length
    · simp [long]
    · simp [long, Nat.le_of_not_lt long]

theorem disposition_eq_queue_iff (s : State) (e : DispatchEntry) :
    disposition s e = .queue ↔ s.ports[entryPort e].takes e = true := by
  rw [disposition_eq]
  split
  · exact iff_of_true rfl ‹_›
  · rename_i refused
    split <;> exact iff_of_false nofun refused

/-- The entries to be queued to port `p`, counted by what the port takes (R123). -/
theorem queuedFor_eq (s : State) (es : List DispatchEntry) (p : PortNo) :
    queuedFor s es p = es.countP fun e => decide (entryPort e = p ∧ s.ports[p].takes e = true) := by
  refine List.countP_congr fun e _ => ?_
  rw [Bool.and_eq_true, beq_iff_eq, beq_iff_eq, disposition_eq_queue_iff, decide_eq_true_iff]
  constructor
  · rintro ⟨takes, rfl⟩
    exact ⟨rfl, takes⟩
  · rintro ⟨rfl, takes⟩
    exact ⟨takes, rfl⟩

theorem roomFor_iff (s : State) (es : List DispatchEntry) :
    roomFor s es = true ↔ ∀ p : PortNo, queuedFor s es p ≤ s.ports[p].freePlaces := by
  have every (p : PortNo) : p ∈ portNos := by revert p; decide
  simp only [roomFor, List.all_eq_true, decide_eq_true_eq]
  exact ⟨fun h p => h p (every p), fun h p _ => h p⟩

theorem admitEntry_port (s : State) (seq : Word16) (index : Nat) (e : DispatchEntry) (p : PortNo) :
    (admitEntry s seq index e).ports[p] = s.ports[p].admitOne p seq index e := by
  have reported (u : State) (reason : UndeliveredReason) (same : u.ports = s.ports) :
      (reportUndelivered u (entryPort e) (txRecordOf seq index e) reason).ports = s.ports :=
    (congrArg State.ports (reportUndelivered_reach u (entryPort e) (txRecordOf seq index e) reason) :).trans same
  have notTaken (h : ¬ s.ports[entryPort e].takes e = true) : s.ports[p] = s.ports[p].admitOne p seq index e := by
    refine (if_neg ?_).symm
    rintro ⟨rfl, takes⟩
    exact h takes
  unfold admitEntry
  rw [disposition_eq]
  by_cases takes : s.ports[entryPort e].takes e = true
  · simp only [if_pos takes, State.modPort_eq, State.setPort_get]
    split
    · rename_i same
      subst same
      exact (if_pos ⟨rfl, takes⟩).symm
    · rename_i other
      exact (if_neg fun h => other h.1.symm).symm
  · rw [if_neg takes]
    split
    · rename_i impossible
      split at impossible <;> cases impossible
    · exact Eq.trans (congrArg (fun x : Vector Port 4 => x[p]) (reported { s with dispatchCounters := _ } _ rfl))
        (notTaken takes)
    · exact Eq.trans (congrArg (fun x : Vector Port 4 => x[p]) (reported { s with dispatchCounters := _ } _ rfl))
        (notTaken takes)

theorem admitEntries_port (s : State) (seq : Word16) (index : Nat) (es : List DispatchEntry) (p : PortNo) :
    (admitEntries s seq index es).ports[p] = Port.admitAll p seq index es s.ports[p] := by
  induction es generalizing s index with
  | nil => rfl
  | cons e es ih =>
    have rest := ih (admitEntry s seq index e) (index + 1)
    rw [admitEntry_port] at rest
    exact rest

/-- Only the frame in SENDING and the Port Transmit Queue may differ. -/
def QueueReach (port next : Port) : Prop := next = { port with sending := next.sending, txQueue := next.txQueue }

theorem QueueReach.trans {port next last : Port} (h : QueueReach port next) (h' : QueueReach next last) :
    QueueReach port last :=
  calc last = { next with sending := last.sending, txQueue := last.txQueue } := h'
    _ = { ({ port with sending := next.sending, txQueue := next.txQueue } : Port) with
          sending := last.sending, txQueue := last.txQueue } :=
        congrArg (fun x : Port => { x with sending := last.sending, txQueue := last.txQueue }) h

/-- A port's settings and receiver are none of the Dispatch Unit's. -/
theorem enqueue_reach (port : Port) (r : PortTxRecord) : QueueReach port (port.enqueue r) := by
  unfold QueueReach Port.enqueue Port.tryStart
  split
  · split <;> rfl
  · rfl

theorem enqueue_takes (port : Port) (r : PortTxRecord) (e : DispatchEntry) : (port.enqueue r).takes e = port.takes e := by
  rw [show port.enqueue r = _ from enqueue_reach port r]
  rfl

theorem admitOne_takes (port : Port) (p : PortNo) (seq : Word16) (index : Nat) (e e' : DispatchEntry) :
    (port.admitOne p seq index e).takes e' = port.takes e' := by
  unfold Port.admitOne
  split
  · exact enqueue_takes port _ e'
  · rfl

/-- A record takes one free place at most (R123, R125). -/
theorem enqueue_queue_length (port : Port) (r : PortTxRecord) :
    (port.enqueue r).txQueue.length ≤ port.txQueue.length + 1 := by
  unfold Port.enqueue Port.tryStart
  split
  · rename_i q rest _ queue
    have length := congrArg List.length queue
    simp only [List.length_append, List.length_cons, List.length_nil] at length
    split
    · simp only
      omega
    · simp
  · simp

/-- The frame in SENDING and the queue behind it, with the record at the end (R125, R128). -/
theorem enqueue_records (h : PortSound port) (enabled : port.enabled = true) (r : PortTxRecord) :
    (port.enqueue r).sending.toList ++ (port.enqueue r).txQueue = port.sending.toList ++ port.txQueue ++ [r] := by
  by_cases idle : port.sending = none
  · have starts : port.enqueue r = { port with txQueue := [], sending := some r } := by
      simp only [Port.enqueue, Port.tryStart, idle, h.idle_empty idle, List.nil_append, enabled, if_true]
    rw [starts, idle, h.idle_empty idle]
    rfl
  · obtain ⟨q, sending⟩ := Option.ne_none_iff_exists'.mp idle
    have stays : port.enqueue r = { port with txQueue := port.txQueue ++ [r] } := by
      simp only [Port.enqueue, Port.tryStart, sending]
    rw [stays, List.append_assoc]

/-- Entries for which every port has room leave it sound, with its settings and its receiver as they were, and the records in frame order behind those it had. -/
theorem admit_spec (h : PortSound port) (index : Nat) (es : List DispatchEntry)
    (room : es.countP (fun e => decide (entryPort e = p ∧ port.takes e = true)) ≤ port.freePlaces) :
    PortSound (Port.admitAll p seq index es port)
      ∧ (Port.admitAll p seq index es port).sending.toList ++ (Port.admitAll p seq index es port).txQueue
        = port.sending.toList ++ port.txQueue
          ++ (((es.zipIdx index).filter fun x => decide (entryPort x.1 = p ∧ port.takes x.1 = true)).map
            fun x => txRecordOf seq x.2 x.1)
      ∧ QueueReach port (Port.admitAll p seq index es port) := by
  induction es generalizing port index with
  | nil => exact ⟨h, (List.append_nil _).symm, rfl⟩
  | cons e es ih =>
    rw [List.countP_cons] at room
    by_cases taken : entryPort e = p ∧ port.takes e = true
    · have next : port.admitOne p seq index e = port.enqueue (txRecordOf seq index e) := if_pos taken
      rw [if_pos (decide_eq_true taken)] at room
      have enabled : port.enabled = true := (Bool.and_eq_true_iff.mp taken.2).1
      have free : port.txQueue.length < Config.portQueuePlaces := by
        simp only [Port.freePlaces] at room
        omega
      have places := enqueue_queue_length port (txRecordOf seq index e)
      obtain ⟨sound, records, same⟩ := ih (port := port.enqueue (txRecordOf seq index e))
        (portSound_enqueue h enabled free _) (index + 1) (by
          simp only [enqueue_takes, Port.freePlaces] at room ⊢
          omega)
      simp only [enqueue_takes] at records
      simp only [Port.admitAll, next]
      refine ⟨sound, ?_, ?_⟩
      · rw [records, enqueue_records h enabled, List.zipIdx_cons, List.filter_cons_of_pos (by exact decide_eq_true taken),
          List.map_cons, List.append_assoc]
        rfl
      · exact (enqueue_reach port _).trans same
    · have next : port.admitOne p seq index e = port := if_neg taken
      have skipped : ¬ (decide (entryPort e = p ∧ port.takes e = true)) = true := by
        rw [decide_eq_true_iff]
        exact taken
      rw [if_neg skipped] at room
      simp only [Port.admitAll, next]
      obtain ⟨sound, records, same⟩ := ih h (index + 1) room
      refine ⟨sound, ?_, same⟩
      rw [records, List.zipIdx_cons, List.filter_cons_of_neg (by exact skipped)]

theorem PortsFit.admitEntries (h : PortsFit s) (seq : Word16) {es : List DispatchEntry} (room : roomFor s es = true) :
    PortsFit (admitEntries s seq 0 es) := by
  intro p
  rw [admitEntries_port]
  refine (admit_spec (h p) 0 es ?_).1
  rw [← queuedFor_eq]
  exact (roomFor_iff s es).mp room p

theorem PortsFit.takeDispatch (h : PortsFit s) (seq : Word16) (es : List DispatchEntry) :
    PortsFit (takeDispatch s seq es) := by
  cases room : s.controlRoom with
  | false => rw [takeDispatch_of_full room]; exact h
  | true =>
    rw [takeDispatch_of_room room]
    unfold takeExpected
    split
    · exact h
    · exact h
    · split
      · exact h
      · split
        · rename_i fits
          exact (h.admitEntries seq fits).congr rfl
        · exact h

end Admission

/-! ### The held record -/

section Held

variable {c : Instr} {s t : State}

/-- A held record's payload is no longer than a field frame carries. -/
def HeldFits (s : State) : Prop := ∀ h, s.hold = some h → h.taken.record.payload.length ≤ 120

/-- A trial leaves the hold stage as it was, or empty (R36). -/
theorem tryHeld_hold (s : State) : (tryHeld s).hold = s.hold ∨ (tryHeld s).hold = none := by
  by_cases run : s.opState = .run
  · cases holds : s.hold with
    | none =>
      unfold tryHeld
      rw [run, holds]
      exact .inl holds
    | some held =>
      rcases placed : place s held.profile held.taken with ⟨u, result⟩
      have kept : u.hold = s.hold := by
        have reach := place_reach s held.profile held.taken
        rw [placed] at reach
        exact (congrArg State.hold reach :)
      rw [tryHeld_of_place run holds placed]
      split
      · exact .inl (kept.trans holds)
      · exact .inr rfl
  · rw [tryHeld_of_not_run run]
    exact .inl rfl

theorem HeldFits.of_hold (h : HeldFits s) (hold : t.hold = s.hold ∨ t.hold = none) : HeldFits t := by
  obtain same | none := hold
  · unfold HeldFits
    rw [same]
    exact h
  · intro x holds
    cases none.symm.trans holds

theorem slotBecameIdle_hold (s : State) : (slotBecameIdle s).hold = s.hold ∨ (slotBecameIdle s).hold = none := by
  unfold slotBecameIdle
  split
  · exact tryHeld_hold s
  · split
    · cases entry : s.replyCache.find? (fun e => e.reply.isNone) with
      | none => rw [endDrain_of_none _ _ entry]; exact .inl rfl
      | some e => rw [endDrain_of_entry _ _ entry]; exact .inl rfl
    · exact .inl rfl
  · exact .inl rfl

theorem moveHead_hold (s : State) (cls : BundleClass) :
    (moveHead s cls).hold = s.hold ∨ (moveHead s cls).hold = none := by
  obtain same | ⟨n, rest, b, cause, qc, _, _, moved⟩ := moveHead_cases s cls
  · rw [same]
    exact .inl rfl
  · have kept : ((vacate s n cls).setQueue cls (s.queue cls ++ [descriptorOf b cause qc])).hold = s.hold := by
      rw [State.setQueue_hold, vacate_hold]
    rw [moved, ← kept]
    exact slotBecameIdle_hold _

theorem HeldFits.discardClosed (h : HeldFits s) : HeldFits (discardClosed s) := by
  refine List.foldlRecOn _ _ h fun u hu n _ => ?_
  unfold discardSlot
  split
  · rename_i b _ cls _
    have returned : HeldFits (giveBack u b.chain) := by
      have reach : (returnChain u b.chain).hold = u.hold := (returnChain_quiet u b.chain).hold
      exact HeldFits.of_hold (s := returnChain u b.chain) (hu.of_hold (.inl reach)) (tryHeld_hold _)
    refine returned.of_hold (.inl ?_)
    cases cls <;> rfl
  · exact hu

/-- Every kind of change keeps the held record short, if no longer one is offered. -/
theorem SlotChange.keeps_heldFits {offered : TakenRecord → Prop} (fits : ∀ r, offered r → r.record.payload.length ≤ 120)
    (change : SlotChange offered s t) (h : HeldFits s) : HeldFits t := by
  cases change with
  | release view _ => exact h.of_hold (.inl (congrArg BundleView.hold view))
  | close n cause => exact h.of_hold (.inl (congrArg State.hold (closeSlot_closeReach s n cause) :))
  | @offer p r run free waiting =>
    rcases placed : place s p r with ⟨u, result⟩
    have kept : u.hold = s.hold := by
      have reach := place_reach s p r
      rw [placed] at reach
      exact (congrArg State.hold reach :)
    rw [handOver_of_place placed]
    split
    · rintro _ ⟨⟩
      exact fits r waiting
    · exact h.of_hold (.inl kept)
  | trial => exact h.of_hold (tryHeld_hold s)
  | move cls => exact h.of_hold (moveHead_hold s cls)
  | writeProfile p range => exact h
  | writeTemplate i short => exact h
  | rest idle => exact h
  | drain busy =>
    have reach := closeAll_closeReach { s with opState := .draining } .quiesce
    exact h.of_hold (.inl (congrArg State.hold reach :))
  | resume quiesced => exact h
  | discard draining =>
    have discarded := h.discardClosed
    exact discarded
  | reset level =>
    refine h.of_hold (.inr ?_)
    cases level <;> rfl

end Held

/-! ### Every step -/

section Step

variable {c : Instr} {s t : State}

theorem nextTake_fifo {p : PortNo} {r : FieldRecord} {rest : List FieldRecord} (next : s.nextTake = some (p, r, rest)) :
    s.ports[p].fifo = r :: rest := by
  unfold State.nextTake at next
  split at next
  · obtain ⟨q, _, taken⟩ := List.exists_of_findSome?_eq_some next
    split at taken
    · cases taken
    · rename_i fifo
      cases taken
      exact fifo
  · cases next

theorem reportMiss_ports (s : State) (r : TakenRecord) : (reportMiss s r).ports = s.ports := by
  unfold reportMiss
  split
  · exact (congrArg State.ports (raise_reach { s with routeMissArmed := false } _) :)
  · rfl

theorem handOver_ports (s : State) (p : Fin 32) (r : TakenRecord) : (handOver s p r).ports = s.ports :=
  (congrArg State.ports (handOver_reach s p r) :)

/-- Once it has left its FIFO a record's handling touches no port (R24). -/
theorem classified_ports (s : State) (r : TakenRecord) : (classified s r).ports = s.ports := by
  unfold classified handleHit handleMiss
  split
  · dsimp only
    split
    · rfl
    · exact handOver_ports _ _ r
  · dsimp only
    split
    · exact reportMiss_ports s r
    · exact (handOver_ports _ _ r).trans (reportMiss_ports s r)

theorem PortsFit.classifierTake (h : PortsFit s) : PortsFit (classifierTake s) := by
  cases next : s.nextTake with
  | none =>
    unfold Machine.classifierTake
    rw [next]
    exact h
  | some taken =>
    obtain ⟨p, r, rest⟩ := taken
    have fifo : s.ports[p].fifo = r :: rest := nextTake_fifo next
    have popped : PortsFit (afterTake s p rest) := h.setPort (p := p) (portSound_take (h p) fifo)
    rw [classifierTake_of_next next]
    exact popped.congr (classified_ports _ _)

theorem PortsFit.clearGroup (h : PortsFit s) (g : CounterGroup) : PortsFit (clearGroup s g) := by
  cases g with
  | port p => exact (h.setPort (portSound_counters (h p) .zero)).congr rfl
  | _ => exact h

theorem exec_keeps_portsFit (h : PortsFit s) (answer : exec c s = .next t) (noReset : performsReset c s = false) :
    PortsFit t := by
  have touched := congrArg State.ports (exec_touches answer noReset)
  have request (u v : State) (hu : PortsFit u) : PortsFit (u.requestOf v) := hu
  cases c with
  | characterArrival p v framing =>
    exact live_keeps (f := (takeCharacter · p v framing)) answer h (h.takeCharacter p v framing)
  | byteGapTimerExpiry p => exact live_keeps (f := (byteGapExpiry · p)) answer h (h.byteGapExpiry p)
  | classifierTake => exact live_keeps answer h h.classifierTake
  | dispatch seq es =>
    refine live_keeps (f := fun u => if dispatchLengthRule es then received u (takeDispatch · seq es)
      else countBadLength u) answer h ?_
    split
    · exact received_keeps h (fun _ => h) (h.takeDispatch seq es)
    · unfold countBadLength
      split <;> exact h
  | fieldFrameComplete p => exact live_keeps (f := (fieldFrameDone · p)) answer h (h.fieldFrameDone p)
  | portControl id port enable bitRate maxLen =>
    refine command_keeps answer request (fun u hu => ?_) h
    split
    · exact hu
    · split
      · rename_i inRange
        exact hu.controlPort _ _ _ inRange.2.2
      · exact hu
  | readCounters id group port first count clear =>
    refine command_keeps answer request (fun u hu => ?_) h
    split
    · exact hu
    · rename_i g _
      dsimp only
      split
      · change PortsFit (if clear = 1 then Machine.clearGroup u g else u)
        split
        · exact hu.clearGroup g
        · exact hu
      · exact hu
  | powerOn => cases noReset
  | resetNAsserted => cases noReset
  | _ => exact h.congr touched

/-- A port after a pin reset (section 8.6). -/
theorem reset_portSound : PortSound Port.reset := by
  refine ⟨?_, ?_, rfl, ?_, ?_, ?_, ?_, ?_⟩ <;> simp [Port.reset, Port.usedBytes, Config.fifoBytes, Config.portQueuePlaces]

/-- A port after a TRAFFIC reset keeps its settings (R21, R135). -/
theorem portSound_trafficReset {port : Port} (h : PortSound port) : PortSound port.trafficReset where
  maxLen_le := h.maxLen_le
  off_iff := by
    cases enabled : port.enabled <;> simp [Port.trafficReset, enabled]
  receiver := by
    unfold ReceiverSound Port.trafficReset
    cases port.enabled <;> rfl
  fifo_fits := Nat.zero_le _
  fifo_payloads := nofun
  queue_places := Nat.zero_le _
  idle_empty _ := rfl
  disabled_idle _ := rfl

theorem ResetOf.portsFit (reset : ResetOf s t) (h : PortsFit s) : PortsFit t := by
  have ofReset {u : State} (same : u.ports = State.reset.ports) : PortsFit u := by
    intro p
    rw [same]
    simp only [State.reset, Fin.getElem_fin, Vector.getElem_replicate]
    exact reset_portSound
  cases reset with
  | ordered _ _ level =>
    cases level with
    | full => exact ofReset rfl
    | traffic =>
      intro p
      match p with
      | 0 => exact portSound_trafficReset (h 0)
      | 1 => exact portSound_trafficReset (h 1)
      | 2 => exact portSound_trafficReset (h 2)
      | 3 => exact portSound_trafficReset (h 3)
  | held => exact ofReset rfl
  | released => exact ofReset rfl

end Step

/-- Settles O11: the ports by the commands that touch them, the held record by the changes a step is a run of. -/
theorem stepKeepsPorts : Obligations.StepKeepsPorts := by
  intro s t sound stepped
  have ports : PortsFit t := step_keeps stepped (fun _ _ _ _ hu => hu)
    (fun answer noReset hu => exec_keeps_portsFit hu answer noReset) (fun reset hu => reset.portsFit hu) sound.ports
  have fits (r : TakenRecord) (waits : waitingIn s r) : r.record.payload.length ≤ 120 :=
    (sound.ports r.port).fifo_payloads r.record waits
  exact ⟨ports, (step_slotRun stepped).keeps (SlotChange.keeps_heldFits fits) sound.held⟩

end Sys2Proof.Machine
end

section
/-! Proofs: every step keeps the Retention List, its pointer, the ack timer and the released-bundle hold sound (R107 to R112, R114). -/

namespace Sys2Proof.Machine

open Safety

/-! ### The list of retained bundles -/

section Lists

variable {s : State} {l : List Retained} {i j : Nat} {e e' : Retained}

/-- Retry counts never rise from oldest to newest, position by position (R108). -/
theorem retryFalls_iff (l : List Retained) :
    (l.Pairwise fun older newer => newer.retry ≤ older.retry) ↔
      ∀ (i j : Nat) (e e' : Retained), i < j → l[i]? = some e → l[j]? = some e' → e'.retry ≤ e.retry := by
  rw [List.pairwise_iff_getElem]
  constructor
  · intro h i j e e' lt at_i at_j
    obtain ⟨hi, rfl⟩ := List.getElem?_eq_some_iff.mp at_i
    obtain ⟨hj, rfl⟩ := List.getElem?_eq_some_iff.mp at_j
    exact h i j hi hj lt
  · intro h i j hi hj lt
    exact h i j _ _ lt (List.getElem?_eq_getElem hi) (List.getElem?_eq_getElem hj)

/-- A sequence stands at one position of a sound Retention List (R107). -/
theorem position_unique (sound : RetentionSound s) (at_i : s.retention[i]? = some e) (at_j : s.retention[j]? = some e')
    (same : e.seq = e'.seq) : i = j := by
  obtain ⟨hi, _⟩ := List.getElem?_eq_some_iff.mp at_i
  obtain ⟨hj, _⟩ := List.getElem?_eq_some_iff.mp at_j
  have places := sound.places
  simp only [Config.retentionPlaces] at places
  have head : s.retention[0]? = some s.retention[0] := List.getElem?_eq_getElem (by omega)
  rw [retained_seq_eq sound head at_i, retained_seq_eq sound head at_j] at same
  have offset := congrArg BitVec.toNat (add_left_cancel same)
  rw [BitVec.toNat_ofNat, BitVec.toNat_ofNat, Nat.mod_eq_of_lt (by omega), Nat.mod_eq_of_lt (by omega)] at offset
  exact offset

theorem seqs_nodup (sound : RetentionSound s) : (s.retention.map Retained.seq).Nodup := by
  rw [List.Nodup, List.pairwise_iff_getElem]
  intro i j hi hj lt same
  rw [List.length_map] at hi hj
  rw [List.getElem_map, List.getElem_map] at same
  exact lt.ne (position_unique sound (List.getElem?_eq_getElem hi) (List.getElem?_eq_getElem hj) same)

theorem eq_of_seq (nodup : (l.map Retained.seq).Nodup) (mem : e ∈ l) (mem' : e' ∈ l) (same : e.seq = e'.seq) : e = e' :=
  List.inj_on_of_nodup_map nodup mem mem' same

/-- The retained bundle at the retransmit pointer, and what the pointer's law says of it (R108). -/
theorem pointed_eq_some (sound : RetentionSound s) (pointed : s.pointed = some e) :
    ∃ i : Nat, s.retransmitPtr = some e.seq ∧ s.retention[i]? = some e
      ∧ ∀ j < i, ∀ e' : Retained, s.retention[j]? = some e' → e.retry < e'.retry := by
  unfold State.pointed at pointed
  split at pointed
  · cases pointed
  · rename_i p pointer
    have seq : e.seq = p := by simpa using List.find?_some pointed
    obtain ⟨i, e', at_i, seq', older⟩ := sound.pointer p pointer
    have same : e' = e := eq_of_seq (seqs_nodup sound) (List.mem_of_getElem? at_i) (List.mem_of_find?_eq_some pointed)
      (seq'.trans seq.symm)
    subst same
    exact ⟨i, seq ▸ pointer, at_i, older⟩

/-- The bundle after the one of a sequence, where sequences are distinct (R108 (4)). -/
theorem nextAfter_eq (nodup : (l.map Retained.seq).Nodup) (at_i : l[i]? = some e) :
    nextAfter e.seq l = l[i + 1]?.map Retained.seq := by
  induction l generalizing i with
  | nil => cases at_i
  | cons first l ih =>
    have distinct := List.nodup_cons.mp nodup
    cases l with
    | nil =>
      cases i with
      | zero => rfl
      | succ i => cases at_i
    | cons second l =>
      cases i with
      | zero =>
        obtain rfl : first = e := by simpa using at_i
        exact if_pos rfl
      | succ i =>
        have later : e ∈ second :: l := List.mem_of_getElem? (i := i) at_i
        have other : first.seq ≠ e.seq := fun same => distinct.1 (same ▸ List.mem_map_of_mem later)
        exact (if_neg other).trans (ih distinct.2 at_i)

theorem modRetained_getElem? (p : Word16) (f : Retained → Retained) (l : List Retained) (i : Nat) :
    (modRetained p f l)[i]? = l[i]?.map fun e => if e.seq = p then f e else e := List.getElem?_map

theorem modRetained_length (p : Word16) (f : Retained → Retained) (l : List Retained) :
    (modRetained p f l).length = l.length := List.length_map _

theorem modRetained_ne_nil {p : Word16} {f : Retained → Retained} (h : l ≠ []) : modRetained p f l ≠ [] := by
  intro empty
  exact h (List.map_eq_nil_iff.mp empty)

/-- A change that keeps sequences and descriptors keeps each bundle with its sequence and descriptor. -/
theorem exists_modRetained {p : Word16} {f : Retained → Retained} (keeps : ∀ e, (f e).seq = e.seq ∧ (f e).desc = e.desc)
    (mem : e ∈ l) : ∃ e' ∈ modRetained p f l, e'.seq = e.seq ∧ e'.desc = e.desc := by
  refine ⟨if e.seq = p then f e else e, List.mem_map_of_mem mem, ?_⟩
  split
  · exact keeps e
  · exact ⟨rfl, rfl⟩

end Lists

/-! ### Removals (R111) -/

section Removals

variable {s t : State}

theorem giveBack_retention (s : State) (chain : List BlockNo) : (giveBack s chain).retention = s.retention :=
  (congrArg State.retention (giveBack_reach s chain) :)

theorem giveBack_tx (s : State) (chain : List BlockNo) : (giveBack s chain).tx = s.tx :=
  (congrArg State.tx (giveBack_reach s chain) :)

theorem giveBack_releasedHold (s : State) (chain : List BlockNo) : (giveBack s chain).releasedHold = s.releasedHold :=
  (congrArg State.releasedHold (giveBack_reach s chain) :)

/-- `k` removals take the `k` oldest. -/
theorem removeOldest_retention (k : Nat) (s : State) : (removeOldest k s).retention = s.retention.drop k := by
  induction k generalizing s with
  | zero => rfl
  | succ k ih =>
    unfold removeOldest
    split
    · rename_i empty
      rw [empty]
      rfl
    · rename_i e rest list
      rw [list, List.drop_succ_cons]
      dsimp only
      split
      · exact ih _
      · rw [ih, giveBack_retention]

theorem beingSent_iff (s : State) (seq : Word16) :
    s.beingSent seq = true ↔ ∃ f, s.tx = some (.bundle f) ∧ f.seq = seq ∧ s.releasedHold = none := by
  unfold State.beingSent
  split
  · rename_i f sent
    rw [Bool.and_eq_true, beq_iff_eq, Option.isNone_iff_eq_none]
    constructor
    · rintro ⟨same, none⟩
      exact ⟨f, sent, same, none⟩
    · rintro ⟨f', sent', same, none⟩
      cases sent.symm.trans sent'
      exact ⟨same, none⟩
  · rename_i other
    simp only [Bool.false_eq_true, false_iff]
    rintro ⟨f, sent, _⟩
    exact other f sent

/-- The law of the bundle in transmission looks at transmission, list and hold alone. -/
theorem sendingSound_congr (h : SendingSound s) (tx : t.tx = s.tx) (list : t.retention = s.retention)
    (hold : t.releasedHold = s.releasedHold) : SendingSound t where
  retained := by rw [tx, list, hold]; exact h.retained
  hold_sent := by rw [tx, hold]; exact h.hold_sent

/-- A removal passes the chain of the bundle in transmission to the hold, and leaves every other transmission retained (R111). -/
theorem sendingSound_removeOldest (k : Nat) (h : SendingSound s) (nodup : (s.retention.map Retained.seq).Nodup) :
    SendingSound (removeOldest k s) := by
  induction k generalizing s with
  | zero => exact h
  | succ k ih =>
    unfold removeOldest
    split
    · exact h
    · rename_i e rest list
      have first : e ∈ s.retention := list ▸ List.mem_cons_self
      have restNodup : (rest.map Retained.seq).Nodup := by
        rw [list, List.map_cons] at nodup
        exact (List.nodup_cons.mp nodup).2
      dsimp only
      split
      · rename_i sent
        obtain ⟨f, sends, same, none⟩ := (beingSent_iff { s with retention := rest } e.seq).mp sent
        obtain ⟨e', mem, seq, desc⟩ := h.retained f sends none
        obtain rfl := eq_of_seq nodup mem first (seq.trans same)
        exact ih ⟨nofun, fun chain held => ⟨f, sends, by cases held; rw [desc]⟩⟩ restNodup
      · rename_i notSent
        refine ih (sendingSound_congr (s := { s with retention := rest }) ⟨fun f sends none => ?_, h.hold_sent⟩
          (giveBack_tx _ _) (giveBack_retention _ _) (giveBack_releasedHold _ _)) (by rw [giveBack_retention]; exact restNodup)
        obtain ⟨e', mem, seq, desc⟩ := h.retained f sends none
        rw [list, List.mem_cons] at mem
        obtain rfl | mem := mem
        · exact absurd ((beingSent_iff { s with retention := rest } e'.seq).mpr ⟨f, sends, seq.symm, none⟩) notSent
        · exact ⟨e', mem, seq, desc⟩

/-- What the end of a bundle transmission leaves in the hold (R111). -/
theorem returnHold_releasedHold (s : State) : (returnHold s).releasedHold = none := by
  unfold returnHold
  split
  · assumption
  · exact giveBack_releasedHold _ _

theorem returnHold_tx (s : State) : (returnHold s).tx = s.tx := (congrArg State.tx (returnHold_reach s) :)

theorem returnHold_retention (s : State) : (returnHold s).retention = s.retention := by
  unfold returnHold
  split
  · rfl
  · exact giveBack_retention _ _

/-- Nothing is sent and nothing is held. -/
theorem sendingSound_of_idle (idle : ∀ f, s.tx ≠ some (.bundle f)) (hold : s.releasedHold = none) : SendingSound s :=
  ⟨fun f sends => absurd sends (idle f), fun _ held => nomatch hold.symm.trans held⟩

/-- Without a bundle in transmission the hold is empty. -/
theorem releasedHold_of_idle (h : SendingSound s) (idle : ∀ f, s.tx ≠ some (.bundle f)) : s.releasedHold = none := by
  cases held : s.releasedHold with
  | none => rfl
  | some chain =>
    obtain ⟨f, sends, _⟩ := h.hold_sent chain held
    exact absurd sends (idle f)

end Removals

/-! ### The law of the list, change by change -/

section Laws

variable {s t : State}

/-- The law of the list looks at list, next sequence, pointer, ack timer and link alone. -/
theorem retentionSound_congr (h : RetentionSound s) (list : t.retention = s.retention) (next : t.nextSeq = s.nextSeq)
    (pointer : t.retransmitPtr = s.retransmitPtr) (timer : t.ackTimer = s.ackTimer) (link : t.link = s.link) :
    RetentionSound t where
  places := by rw [list]; exact h.places
  consecutive := by rw [list, next]; exact h.consecutive
  retry_le := by rw [list]; exact h.retry_le
  retry_falls := by rw [list]; exact h.retry_falls
  pointer := by rw [pointer, list]; exact h.pointer
  timer_up := by rw [timer, link, list]; exact h.timer_up
  offline_clear := by rw [link, pointer]; exact h.offline_clear

/-- What RetentionSound says of the list alone. -/
structure ListSound (l : List Retained) (next : Word16) : Prop where
  places : l.length ≤ Config.retentionPlaces
  consecutive : ∀ (i : Nat) (e : Retained), l[i]? = some e → e.seq + BitVec.ofNat 16 (l.length - i) = next
  retry_le : ∀ e ∈ l, e.retry ≤ 7
  retry_falls : ∀ (i j : Nat) (e e' : Retained), i < j → l[i]? = some e → l[j]? = some e' → e'.retry ≤ e.retry

theorem retentionSound_iff (s : State) :
    RetentionSound s ↔ ListSound s.retention s.nextSeq
      ∧ (∀ p, s.retransmitPtr = some p → ∃ i, PointsAt s.retention p i)
      ∧ (s.ackTimer.isSome = true → s.link = .up ∧ s.retention ≠ []) ∧ (s.link = .offline → s.retransmitPtr = none) :=
  ⟨fun h => ⟨⟨h.places, h.consecutive, h.retry_le, (retryFalls_iff _).mp h.retry_falls⟩, h.pointer, h.timer_up,
      h.offline_clear⟩,
    fun ⟨h, pointer, timer, offline⟩ =>
      ⟨h.places, h.consecutive, h.retry_le, (retryFalls_iff _).mpr h.retry_falls, pointer, timer, offline⟩⟩

theorem listSound_of_retentionSound (h : RetentionSound s) : ListSound s.retention s.nextSeq := ((retentionSound_iff s).mp h).1

/-- Removals of the oldest keep the list sound. -/
theorem listSound_drop {l : List Retained} {next : Word16} (h : ListSound l next) (k : Nat) : ListSound (l.drop k) next where
  places := by rw [List.length_drop]; exact (Nat.sub_le _ _).trans h.places
  consecutive i e at_i := by
    rw [List.getElem?_drop] at at_i
    rw [List.length_drop, Nat.sub_sub]
    exact h.consecutive (k + i) e at_i
  retry_le e mem := h.retry_le e (List.mem_of_mem_drop mem)
  retry_falls i j e e' lt at_i at_j := by
    rw [List.getElem?_drop] at at_i at_j
    exact h.retry_falls (k + i) (k + j) e e' (by omega) at_i at_j

/-- A new bundle, its sequence the next one and its retry count 0 (R106). -/
theorem listSound_append {l : List Retained} {next : Word16} (h : ListSound l next) (room : l.length < Config.retentionPlaces)
    {e : Retained} (seq : e.seq = next) (fresh : e.retry = 0) : ListSound (l ++ [e]) (next + 1) where
  places := by rw [List.length_append]; exact room
  consecutive i x at_i := by
    rw [List.length_append, List.length_singleton]
    rw [List.getElem?_append] at at_i
    split at at_i
    · rename_i below
      have later : l.length + 1 - i = (l.length - i) + 1 := by omega
      rw [later, BitVec.ofNat_add, ← BitVec.add_assoc, h.consecutive i x at_i]
      rfl
    · rename_i above
      cases gap : i - l.length with
      | succ n => rw [gap] at at_i; cases at_i
      | zero =>
        rw [gap] at at_i
        obtain rfl : e = x := by simpa using at_i
        have last : l.length + 1 - i = 1 := by omega
        rw [last, seq]
        rfl
  retry_le x mem := by
    rw [List.mem_append, List.mem_singleton] at mem
    obtain old | rfl := mem
    · exact h.retry_le x old
    · omega
  retry_falls i j x x' lt at_i at_j := by
    rw [List.getElem?_append] at at_j
    split at at_j
    · rename_i below
      rw [List.getElem?_append_left (by omega)] at at_i
      exact h.retry_falls i j x x' lt at_i at_j
    · have newest : x' = e := by
        have mem := List.mem_of_getElem? at_j
        simpa using mem
      rw [newest, fresh]
      exact Nat.zero_le _

/-- A change of retry counts alone. -/
theorem listSound_map {l : List Retained} {next : Word16} (h : ListSound l next) (f : Retained → Retained)
    (seq : ∀ e, (f e).seq = e.seq) (le : ∀ e ∈ l, (f e).retry ≤ 7)
    (falls : ∀ (i j : Nat) (e e' : Retained), i < j → l[i]? = some e → l[j]? = some e' → (f e').retry ≤ (f e).retry) :
    ListSound (l.map f) next where
  places := by rw [List.length_map]; exact h.places
  consecutive i x at_i := by
    rw [List.getElem?_map, Option.map_eq_some_iff] at at_i
    obtain ⟨e, at_i, rfl⟩ := at_i
    rw [seq, List.length_map]
    exact h.consecutive i e at_i
  retry_le x mem := by
    obtain ⟨e, old, rfl⟩ := List.mem_map.mp mem
    exact le e old
  retry_falls i j x x' lt at_i at_j := by
    rw [List.getElem?_map, Option.map_eq_some_iff] at at_i at_j
    obtain ⟨e, at_i, rfl⟩ := at_i
    obtain ⟨e', at_j, rfl⟩ := at_j
    exact falls i j e e' lt at_i at_j

theorem pointsAt_head {l : List Retained} {e : Retained} {rest : List Retained} (list : l = e :: rest) :
    PointsAt l e.seq 0 := ⟨e, by rw [list]; rfl, rfl, nofun⟩

/-- A pointer that still names a retained bundle after removals points as before. -/
theorem pointsAt_drop {l : List Retained} {p : Word16} {i k : Nat} (points : PointsAt l p i) (kept : k ≤ i) :
    PointsAt (l.drop k) p (i - k) := by
  obtain ⟨e, at_i, seq, older⟩ := points
  refine ⟨e, ?_, seq, fun j lt e' at_j => ?_⟩
  · rw [List.getElem?_drop, Nat.add_sub_cancel' kept]
    exact at_i
  · rw [List.getElem?_drop] at at_j
    exact older (k + j) (by omega) e' at_j

theorem retentionSound_stopped (h : RetentionSound s) : RetentionSound (stopped s) :=
  (retentionSound_iff _).mpr ⟨(listSound_of_retentionSound h :), nofun, nofun, fun _ => rfl⟩

theorem retentionSound_raise (h : RetentionSound s) (e : Event) : RetentionSound (raise s e) := by
  have reach := raise_reach s e
  exact retentionSound_congr h (congrArg State.retention reach :) (congrArg State.nextSeq reach :)
    (congrArg State.retransmitPtr reach :) (congrArg State.ackTimer reach :) (congrArg State.link reach :)

theorem retentionSound_stall (h : RetentionSound s) : RetentionSound (stall s) := by
  rw [stall_eq]
  split
  · exact retentionSound_stopped h
  · exact retentionSound_raise (retentionSound_stopped h) _

theorem retentionSound_expireAck (h : RetentionSound s) : RetentionSound (expireAck s) := by
  obtain same | ⟨d, e, rest, timer, list, ⟨stalled, _⟩ | ⟨back, _⟩⟩ := expireAck_cases s
  · rwa [same]
  · rw [stalled]
    exact retentionSound_stall h
  · have up := (h.timer_up (by rw [timer]; rfl)).1
    rw [back]
    refine (retentionSound_iff _).mpr ⟨(listSound_of_retentionSound h :), ?_, nofun, fun down => nomatch up.symm.trans down⟩
    rintro p ⟨⟩
    exact ⟨0, pointsAt_head list⟩

theorem retentionSound_moveHead (h : RetentionSound s) (cls : BundleClass) : RetentionSound (moveHead s cls) := by
  have reach := moveHead_reach s cls
  exact retentionSound_congr h (congrArg State.retention reach :) (congrArg State.nextSeq reach :)
    (congrArg State.retransmitPtr reach :) (congrArg State.ackTimer reach :) (congrArg State.link reach :)

theorem bundleTurn_iff (s : State) :
    s.bundleTurn = true ↔ s.tx = none ∧ s.link = .up ∧ s.controlQueue = [] ∧ s.eventQueue = [] := by
  simp only [State.bundleTurn, Bool.and_eq_true, Option.isNone_iff_eq_none, beq_iff_eq, List.isEmpty_iff, and_assoc]

theorem retentionSound_startFirst (h : RetentionSound s) : RetentionSound (startFirst s) := by
  unfold startFirst
  split
  · rename_i may
    obtain ⟨turn, pointer, room, _⟩ := may
    obtain ⟨_, up, _⟩ := (bundleTurn_iff s).mp turn
    split
    · exact h
    · rename_i cls _
      cases queue : s.queue cls with
      | nil => rwa [startNewBundle_of_empty queue]
      | cons d rest =>
        rw [startNewBundle_of_queue queue]
        have pointer' : (startedBundle s cls d rest).retransmitPtr = none :=
          (State.setQueue_retransmitPtr s cls rest).trans pointer
        have timer' : (startedBundle s cls d rest).ackTimer = s.ackTimer := State.setQueue_ackTimer s cls rest
        have link' : (startedBundle s cls d rest).link = s.link := State.setQueue_link s cls rest
        refine retentionSound_moveHead ((retentionSound_iff _).mpr
          ⟨listSound_append (listSound_of_retentionSound h) room rfl rfl, ?_, ?_, fun _ => pointer'⟩) cls
        · rw [pointer']
          exact nofun
        · rw [timer', link']
          exact fun runs => ⟨up, List.append_ne_nil_of_right_ne_nil _ (List.cons_ne_nil _ _)⟩
  · exact h

/-- The resent bundle's retry count rises by one, and the pointer moves on (R108). -/
theorem retentionSound_startRetransmission (h : RetentionSound s) (tables : TablesInRange s) :
    RetentionSound (startRetransmission s) := by
  unfold startRetransmission
  cases pointed : s.pointed with
  | none => exact h
  | some e =>
    dsimp only
    split
    · rename_i may
      obtain ⟨turn, below, _⟩ := may
      obtain ⟨_, up, _⟩ := (bundleTurn_iff s).mp turn
      obtain ⟨i, _, at_i, older⟩ := pointed_eq_some h pointed
      have nodup := seqs_nodup h
      have limit := tables.config.retryLimit.2
      have list := listSound_of_retentionSound h
      have isE {j : Nat} {x : Retained} (at_j : s.retention[j]? = some x) : x.seq = e.seq ↔ j = i := by
        constructor
        · exact position_unique h at_j at_i
        · rintro rfl
          cases at_j.symm.trans at_i
          rfl
      refine (retentionSound_iff _).mpr ⟨listSound_map list _ ?_ ?_ ?_, ?_, ?_, fun down => nomatch up.symm.trans down⟩
      · intro x
        split <;> rfl
      · intro x mem
        split
        · rename_i same
          obtain rfl := eq_of_seq nodup mem (List.mem_of_getElem? at_i) same
          dsimp only
          omega
        · exact list.retry_le x mem
      · intro j k x x' lt at_j at_k
        have falls := list.retry_falls j k x x' lt at_j at_k
        simp only [isE at_j, isE at_k]
        split
        · rename_i newer
          subst newer
          rw [if_neg lt.ne]
          cases at_k.symm.trans at_i
          exact older j lt x at_j
        · split
          · exact falls.trans (Nat.le_succ _)
          · exact falls
      · intro p next
        change nextAfter e.seq s.retention = some p at next
        rw [nextAfter_eq nodup at_i, Option.map_eq_some_iff] at next
        obtain ⟨x, at_next, rfl⟩ := next
        refine ⟨i + 1, x, ?_, rfl, fun j lt x' at_j => ?_⟩
        · rw [modRetained_getElem?, at_next, Option.map_some, if_neg (mt (isE at_next).mp (Nat.succ_ne_self i))]
        · rw [modRetained_getElem?, Option.map_eq_some_iff] at at_j
          obtain ⟨y, at_j, rfl⟩ := at_j
          have notRising := list.retry_falls i (i + 1) e x (Nat.lt_succ_self i) at_i at_next
          split
          · rename_i same
            obtain rfl := (isE at_j).mp same
            cases at_j.symm.trans at_i
            exact Nat.lt_succ_of_le notRising
          · rename_i other
            have before : j < i := Nat.lt_of_le_of_ne (Nat.lt_succ_iff.mp lt) fun eq => other ((isE at_j).mpr eq)
            exact notRising.trans_lt (older j before y at_j)
      · intro runs
        exact ⟨up, modRetained_ne_nil (List.ne_nil_of_mem (List.mem_of_getElem? at_i))⟩
    · exact h

theorem retentionSound_completeBundle (h : RetentionSound s) : RetentionSound (completeBundle s) := by
  unfold completeBundle
  split
  · rename_i f _
    split
    · have reach := returnHold_reach { s with tx := none }
      exact retentionSound_congr h (returnHold_retention _) (congrArg State.nextSeq reach :)
        (congrArg State.retransmitPtr reach :) (congrArg State.ackTimer reach :) (congrArg State.link reach :)
    · obtain ⟨list, pointer, timer, offline⟩ := (retentionSound_iff s).mp h
      refine (retentionSound_iff _).mpr ⟨listSound_map list _ ?_ ?_ ?_, ?_, ?_, offline⟩
      · intro e
        split <;> rfl
      · intro e mem
        have le := list.retry_le e mem
        split <;> exact le
      · intro i j e e' lt at_i at_j
        have falls := list.retry_falls i j e e' lt at_i at_j
        split <;> split <;> exact falls
      · intro p points
        obtain ⟨i, e, at_i, seq, older⟩ := pointer p points
        refine ⟨i, if e.seq = f.seq then { e with completed := true } else e, ?_, ?_, fun j lt e' at_j => ?_⟩
        · rw [modRetained_getElem?, at_i]
          rfl
        · split <;> exact seq
        · rw [modRetained_getElem?, Option.map_eq_some_iff] at at_j
          obtain ⟨x, at_j, rfl⟩ := at_j
          have more := older j lt x at_j
          split <;> split <;> exact more
      · intro runs
        dsimp only at runs ⊢
        split at runs
        · rename_i may
          exact ⟨may.1, modRetained_ne_nil may.2.1⟩
        · obtain ⟨up, some⟩ := timer runs
          exact ⟨up, modRetained_ne_nil some⟩
  · exact h

theorem retentionSound_linkDown (h : RetentionSound s) : RetentionSound (linkDown s) := by
  have touched := linkDown_touches s
  have list : (linkDown s).retention = s.retention := by
    change (abortTransmission s).retention = s.retention
    unfold abortTransmission
    split
    case h_5 => exact returnHold_retention { s with tx := none }
    all_goals rfl
  have next : (linkDown s).nextSeq = s.nextSeq := (congrArg State.nextSeq touched :)
  refine (retentionSound_iff _).mpr ⟨?_, nofun, nofun, fun _ => rfl⟩
  rw [list, next]
  exact listSound_of_retentionSound h

theorem retentionSound_synced (h : RetentionSound s) : RetentionSound (synced s) := by
  refine (retentionSound_iff _).mpr ⟨listSound_map (listSound_of_retentionSound h) _ (fun _ => rfl) (fun _ _ => Nat.zero_le _)
    (fun _ _ _ _ _ _ _ => le_rfl), ?_, nofun, nofun⟩
  intro p points
  change s.retention.head?.map Retained.seq = some p at points
  obtain ⟨e, head, rfl⟩ := Option.map_eq_some_iff.mp points
  obtain ⟨rest, list⟩ := List.head?_eq_some_iff.mp head
  refine ⟨0, { e with retry := 0 }, ?_, rfl, nofun⟩
  simp only [synced, list]
  rfl

theorem retentionSound_takeSync (h : RetentionSound s) : RetentionSound (takeSync s) := by
  cases carrier : s.carrier with
  | false => rwa [takeSync_of_no_carrier carrier]
  | true =>
    by_cases room : s.controlQueue.length ≤ 7
    · rw [takeSync_of_room carrier room]
      split
      · exact retentionSound_raise (retentionSound_synced h) _
      · exact retentionSound_synced h
    · rw [takeSync_of_full carrier (Nat.lt_of_not_le room)]
      exact retentionSound_congr h rfl rfl rfl rfl rfl

theorem removeOldest_same (k : Nat) (s : State) :
    (removeOldest k s).nextSeq = s.nextSeq ∧ (removeOldest k s).retransmitPtr = s.retransmitPtr
      ∧ (removeOldest k s).link = s.link ∧ (removeOldest k s).tx = s.tx := by
  have reach := removeOldest_reach k s
  exact ⟨(congrArg State.nextSeq reach :), (congrArg State.retransmitPtr reach :), (congrArg State.link reach :),
    (congrArg State.tx reach :)⟩

theorem retentionSound_takeAck (h : RetentionSound s) (n : Word16) : RetentionSound (takeAck s n) := by
  cases found : s.retainedIndex n with
  | none =>
    rw [takeAck_of_stray found]
    exact retentionSound_congr h rfl rfl rfl rfl rfl
  | some k =>
    obtain ⟨next, pointer, link, _⟩ := removeOldest_same (k + 1) s
    have list := removeOldest_retention (k + 1) s
    have taken : takeAck s n =
        { removeOldest (k + 1) s with
          retransmitPtr := (removeOldest (k + 1) s).movedPointer
          ackTimer := (removeOldest (k + 1) s).followOldest
          trunk := { (removeOldest (k + 1) s).trunk with acks := bump (removeOldest (k + 1) s).trunk.acks } } := by
      simp only [takeAck, found]
    rw [taken]
    refine (retentionSound_iff _).mpr ⟨?_, ?_, ?_, ?_⟩
    · dsimp only
      rw [list, next]
      exact listSound_drop (listSound_of_retentionSound h) _
    · intro p points
      dsimp only at points ⊢
      unfold State.movedPointer at points
      rw [pointer] at points
      split at points
      · cases points
      · rename_i q pointed
        obtain ⟨i, at_i⟩ := h.pointer q pointed
        split at points
        · rename_i still
          cases points
          rw [list] at still ⊢
          refine ⟨i - (k + 1), pointsAt_drop at_i ?_⟩
          rw [List.any_eq_true] at still
          obtain ⟨x, mem, same⟩ := still
          obtain ⟨j, at_j⟩ := List.getElem?_of_mem mem
          rw [List.getElem?_drop] at at_j
          obtain ⟨e, at_e, seq, _⟩ := at_i
          have := position_unique h at_j at_e ((beq_iff_eq.mp same).trans seq.symm)
          omega
        · split at points
          · cases points
          · rename_i e rest left
            cases points
            exact ⟨0, pointsAt_head left⟩
    · intro runs
      dsimp only at runs ⊢
      unfold State.followOldest at runs
      split at runs
      · cases runs
      · rename_i e rest left
        split at runs
        · rename_i may
          exact ⟨may.1, by rw [left]; exact List.cons_ne_nil _ _⟩
        · cases runs
    · intro down
      dsimp only at down ⊢
      rw [link] at down
      unfold State.movedPointer
      rw [pointer, h.offline_clear down]

theorem retentionSound_takeNak (h : RetentionSound s) (up : s.link ≠ .offline) (n : Word16) : RetentionSound (takeNak s n) := by
  cases found : s.retainedIndex n with
  | none =>
    rw [takeNak_of_stray found]
    exact retentionSound_congr h rfl rfl rfl rfl rfl
  | some k =>
    obtain ⟨next, _, link, _⟩ := removeOldest_same k s
    have list := removeOldest_retention k s
    have taken : takeNak s n =
        { removeOldest k s with
          retransmitPtr := some n
          ackTimer := none
          trunk := { (removeOldest k s).trunk with naks := bump (removeOldest k s).trunk.naks } } := by
      simp only [takeNak, found]
    rw [taken]
    refine (retentionSound_iff _).mpr ⟨?_, ?_, nofun, fun down => absurd (link.symm.trans down) up⟩
    · dsimp only
      rw [list, next]
      exact listSound_drop (listSound_of_retentionSound h) _
    · rintro p ⟨⟩
      obtain ⟨e, at_k, seq⟩ := retainedIndex_eq_some h found
      refine ⟨0, e, ?_, seq, nofun⟩
      dsimp only
      rw [list, List.getElem?_drop]
      exact at_k

end Laws

/-! ### Every command -/

section Commands

variable {c : Instr} {s t : State}

theorem received_keeps_up {P : State → Prop} {f : State → State} (h : P s) (counts : ∀ trunk, P { s with trunk := trunk })
    (kept : s.link ≠ .offline → P (f s)) : P (received s f) := by
  unfold received
  split
  · exact h
  · split
    · exact counts _
    · rename_i up
      exact kept up

theorem exec_keeps_retentionSound (h : RetentionSound s) (tables : TablesInRange s) (answer : exec c s = .next t)
    (noReset : performsReset c s = false) : RetentionSound t := by
  have touched := exec_touches answer noReset
  have counts (trunk : TrunkCounters) : RetentionSound { s with trunk := trunk } :=
    retentionSound_congr h rfl rfl rfl rfl rfl
  cases c with
  | firstTransmissionStart => exact live_keeps answer h (retentionSound_startFirst h)
  | retransmissionStart => exact live_keeps answer h (retentionSound_startRetransmission h tables)
  | retryCheckAtLimit =>
    refine live_keeps answer h ?_
    obtain same | ⟨_, stalled⟩ := retryCheck_cases s
    · rwa [same]
    · rw [stalled]
      exact retentionSound_stall h
  | ackTimerExpiry => exact live_keeps answer h (retentionSound_expireAck h)
  | bundleTransmissionComplete => exact live_keeps answer h (retentionSound_completeBundle h)
  | carrierLoss =>
    have answer : execCarrierLoss s = .next t := answer
    unfold execCarrierLoss at answer
    split at answer
    · cases answer
      exact h
    · rename_i carrier
      have carrier : s.carrier = true := by simpa using carrier
      split at answer
      · cases answer
        exact retentionSound_congr h rfl rfl rfl rfl rfl
      · rename_i working
        cases answer
        rw [loseCarrier_of_no_reset (by simpa [performsReset, carrier, working] using noReset)]
        exact retentionSound_linkDown h
  | sync => exact live_keeps answer h (retentionSound_takeSync h)
  | bundleAck n =>
    exact live_keeps (f := (received · (takeAck · n))) answer h (received_keeps h counts (retentionSound_takeAck h n))
  | bundleNak n =>
    exact live_keeps (f := (received · (takeNak · n))) answer h
      (received_keeps_up h counts fun up => retentionSound_takeNak h up n)
  | powerOn => cases noReset
  | resetNAsserted => cases noReset
  | _ =>
    exact retentionSound_congr h (congrArg State.retention touched :) (congrArg State.nextSeq touched :)
      (congrArg State.retransmitPtr touched :) (congrArg State.ackTimer touched :) (congrArg State.link touched :)

/-! ### The bundle in transmission -/

theorem sendingSound_startFirst (h : SendingSound s) : SendingSound (startFirst s) := by
  unfold startFirst
  split
  · rename_i may
    obtain ⟨idle, _⟩ := (bundleTurn_iff s).mp may.1
    have free : s.releasedHold = none := releasedHold_of_idle h fun f sends => nomatch idle.symm.trans sends
    split
    · exact h
    · rename_i cls _
      cases queue : s.queue cls with
      | nil => rwa [startNewBundle_of_empty queue]
      | cons d rest =>
        rw [startNewBundle_of_queue queue]
        have reach := moveHead_reach (startedBundle s cls d rest) cls
        have free' : (startedBundle s cls d rest).releasedHold = none :=
          (State.setQueue_releasedHold s cls rest).trans free
        refine sendingSound_congr (s := startedBundle s cls d rest) ⟨?_, fun chain held => nomatch free'.symm.trans held⟩
          (congrArg State.tx reach :) (congrArg State.retention reach :) (congrArg State.releasedHold reach :)
        rintro f ⟨⟩ _
        exact ⟨_, List.mem_append_right _ (List.mem_singleton_self _), rfl, rfl⟩
  · exact h

theorem sendingSound_startRetransmission (h : SendingSound s) (retained : RetentionSound s) :
    SendingSound (startRetransmission s) := by
  unfold startRetransmission
  cases pointed : s.pointed with
  | none => exact h
  | some e =>
    dsimp only
    split
    · rename_i may
      obtain ⟨idle, _⟩ := (bundleTurn_iff s).mp may.1
      have free : s.releasedHold = none := releasedHold_of_idle h fun f sends => nomatch idle.symm.trans sends
      obtain ⟨i, _, at_i, _⟩ := pointed_eq_some retained pointed
      refine ⟨?_, fun chain held => nomatch free.symm.trans held⟩
      rintro f ⟨⟩ _
      exact exists_modRetained (fun _ => ⟨rfl, rfl⟩) (List.mem_of_getElem? at_i)
    · exact h

theorem sendingSound_completeBundle (h : SendingSound s) : SendingSound (completeBundle s) := by
  unfold completeBundle
  split
  · split
    · refine sendingSound_of_idle (fun f sends => ?_) (returnHold_releasedHold _)
      rw [returnHold_tx] at sends
      cases sends
    · rename_i free
      exact sendingSound_of_idle nofun (by simpa using free)
  · exact h

theorem sendingSound_linkDown (h : SendingSound s) : SendingSound (linkDown s) := by
  refine sendingSound_of_idle (fun f sends => nomatch (linkDown_tx s).symm.trans sends) ?_
  change (abortTransmission s).releasedHold = none
  unfold abortTransmission
  split
  case h_5 => exact returnHold_releasedHold _
  all_goals
    rename_i other
    refine (releasedHold_of_idle h fun f sends => ?_ :)
    cases other.symm.trans sends

theorem sendingSound_takeSync (h : SendingSound s) : SendingSound (takeSync s) := by
  have sound : SendingSound (synced s) := by
    refine ⟨fun f sends free => ?_, h.hold_sent⟩
    obtain ⟨e, mem, seq, desc⟩ := h.retained f sends free
    exact ⟨{ e with retry := 0 }, List.mem_map_of_mem mem, seq, desc⟩
  cases carrier : s.carrier with
  | false => rwa [takeSync_of_no_carrier carrier]
  | true =>
    by_cases room : s.controlQueue.length ≤ 7
    · rw [takeSync_of_room carrier room]
      split
      · have reach := raise_reach (synced s) (.linkResynced s.retention.length)
        exact sendingSound_congr sound (congrArg State.tx reach :) (congrArg State.retention reach :)
          (congrArg State.releasedHold reach :)
      · exact sound
    · rw [takeSync_of_full carrier (Nat.lt_of_not_le room)]
      exact sendingSound_congr h rfl rfl rfl

/-- A control frame's end, where it performs no reset, leaves a bundle's transmission as it is. -/
theorem completeControl_tx (noReset : (s.awaitedStarted && s.pendingReset.isSome) = false) :
    (completeControl s).tx = s.tx ∨ (completeControl s).tx = none ∧ ∀ f, s.tx ≠ some (.bundle f) := by
  unfold completeControl
  split
  · rename_i e sent
    rw [State.awaitedStarted_of_control sent] at noReset
    rw [controlEnded_of_no_reset (s := { s with tx := none }) noReset]
    exact .inr ⟨rfl, fun f sends => nomatch sent.symm.trans sends⟩
  · exact .inl rfl

/-- A start or an end of a transmission other than a bundle's. -/
theorem sendingSound_other (h : SendingSound s) (before : ∀ f, s.tx ≠ some (.bundle f))
    (after : ∀ f, t.tx ≠ some (.bundle f)) (hold : t.releasedHold = s.releasedHold) : SendingSound t :=
  sendingSound_of_idle after (hold.trans (releasedHold_of_idle h before))

theorem exec_keeps_sendingSound (h : SendingSound s) (retained : RetentionSound s) (answer : exec c s = .next t)
    (noReset : performsReset c s = false) : SendingSound t := by
  have touched := exec_touches answer noReset
  have counts (trunk : TrunkCounters) : SendingSound { s with trunk := trunk } := sendingSound_congr h rfl rfl rfl
  have idle {u : State} (free : u.tx = none) (f : BundleTx) : u.tx ≠ some (.bundle f) :=
    fun sends => nomatch free.symm.trans sends
  cases c with
  | helloStart =>
    refine live_keeps answer h ?_
    unfold startHello
    split
    · rename_i free
      exact sendingSound_other h (idle free.1) nofun rfl
    · exact h
  | helloComplete =>
    refine live_keeps answer h ?_
    unfold completeHello
    split
    · rename_i sent
      exact sendingSound_other h (fun f sends => nomatch sent.symm.trans sends) nofun rfl
    · exact h
  | controlFrameStart =>
    refine live_keeps answer h ?_
    unfold startControl
    split
    · exact h
    · split
      · rename_i free
        exact sendingSound_other h (idle free.1) nofun rfl
      · exact h
  | controlFrameComplete =>
    have hold : t.releasedHold = s.releasedHold := (congrArg State.releasedHold touched :)
    have list : t.retention = s.retention := (congrArg State.retention touched :)
    cases held : s.held with
    | true =>
      cases (live_of_held held completeControl).symm.trans answer
      exact h
    | false =>
      cases (exec_controlFrameComplete_of_working held).symm.trans answer
      have ends := completeControl_tx (by simpa [performsReset, held] using noReset)
      obtain same | ⟨after, before⟩ := ends
      · exact sendingSound_congr h same list hold
      · exact sendingSound_other h before (idle after) hold
  | eventFrameStart =>
    refine live_keeps answer h ?_
    unfold startEvent
    split
    · exact h
    · split
      · rename_i free
        exact sendingSound_other h (idle free.1) nofun rfl
      · exact h
  | eventFrameComplete =>
    refine live_keeps answer h ?_
    unfold completeEvent
    split
    · rename_i sent
      exact sendingSound_other h (fun f sends => nomatch sent.symm.trans sends) nofun rfl
    · exact h
  | firstTransmissionStart => exact live_keeps answer h (sendingSound_startFirst h)
  | retransmissionStart => exact live_keeps answer h (sendingSound_startRetransmission h retained)
  | bundleTransmissionComplete => exact live_keeps answer h (sendingSound_completeBundle h)
  | carrierLoss =>
    have answer : execCarrierLoss s = .next t := answer
    unfold execCarrierLoss at answer
    split at answer
    · cases answer
      exact h
    · rename_i carrier
      have carrier : s.carrier = true := by simpa using carrier
      split at answer
      · cases answer
        exact sendingSound_congr h rfl rfl rfl
      · rename_i working
        cases answer
        rw [loseCarrier_of_no_reset (by simpa [performsReset, carrier, working] using noReset)]
        exact sendingSound_linkDown h
  | sync => exact live_keeps answer h (sendingSound_takeSync h)
  | bundleAck n =>
    refine live_keeps (f := (received · (takeAck · n))) answer h (received_keeps h counts ?_)
    unfold takeAck
    split
    · exact counts _
    · exact sendingSound_congr (sendingSound_removeOldest _ h (seqs_nodup retained)) rfl rfl rfl
  | bundleNak n =>
    refine live_keeps (f := (received · (takeNak · n))) answer h (received_keeps h counts ?_)
    unfold takeNak
    split
    · exact counts _
    · exact sendingSound_congr (sendingSound_removeOldest _ h (seqs_nodup retained)) rfl rfl rfl
  | powerOn => cases noReset
  | resetNAsserted => cases noReset
  | _ =>
    exact sendingSound_congr h (congrArg State.tx touched :) (congrArg State.retention touched :)
      (congrArg State.releasedHold touched :)

theorem retentionSound_of_empty (list : s.retention = []) (pointer : s.retransmitPtr = none) (timer : s.ackTimer = none) :
    RetentionSound s := by
  refine ⟨?_, ?_, ?_, ?_, ?_, ?_, ?_⟩ <;> simp [list, pointer, timer]

theorem ResetOf.retentionSound (reset : ResetOf s t) : RetentionSound t ∧ SendingSound t := by
  cases reset with
  | ordered _ _ level =>
    cases level <;> exact ⟨retentionSound_of_empty rfl rfl rfl, sendingSound_of_idle nofun rfl⟩
  | held => exact ⟨retentionSound_of_empty rfl rfl rfl, sendingSound_of_idle nofun rfl⟩
  | released => exact ⟨retentionSound_of_empty rfl rfl rfl, sendingSound_of_idle nofun rfl⟩

end Commands

/-- Settles O14: the list by what each start, end and acknowledgement makes of it, the transmission by what it leaves retained. -/
theorem stepKeepsRetentionList : Obligations.StepKeepsRetentionList := by
  constructor
  · intro s t sound tables stepped
    exact step_leads (A := fun u => RetentionSound u ∧ TablesInRange u) stepped
      (fun _ _ _ _ hu => ⟨retentionSound_congr hu.1 rfl rfl rfl rfl rfl, tablesInRange_of_same hu.2 ⟨rfl, rfl, rfl, rfl, rfl⟩⟩)
      And.left (fun answer noReset hu => exec_keeps_retentionSound hu.1 hu.2 answer noReset)
      (fun reset _ => reset.retentionSound.1) ⟨sound, tables⟩
  · intro s t sound retained stepped
    exact step_leads (A := fun u => SendingSound u ∧ RetentionSound u) stepped
      (fun _ _ _ _ hu => ⟨sendingSound_congr hu.1 rfl rfl rfl, retentionSound_congr hu.2 rfl rfl rfl rfl rfl⟩)
      And.left (fun answer noReset hu => exec_keeps_sendingSound hu.1 hu.2 answer noReset)
      (fun reset _ => reset.retentionSound.2) ⟨sound, retained⟩

end Sys2Proof.Machine
end

section
/-! Proofs: every taken record is counted once (R22, R24, R34, R36): what each operation adds to the CLASSIFY counters and to the hold stage. -/

namespace Sys2Proof.Machine

open Safety

/-! ### A placement attempt, case by case (R54 to R58) -/

section Attempt

variable {s u : State} {p : Fin 32} {r : TakenRecord}

/-- What a granted request for `k` blocks leaves (R70, R73). -/
def granted (s : State) (k : Nat) : State :=
  checkPoolLow { s with freeList := s.freeList.drop k, minFree := min s.minFree (s.freeList.length - k) }

/-- What a refused request leaves (R70, R73). -/
def refused (s : State) : State := checkPoolExhausted { s with allocFailures := bump s.allocFailures }

theorem grant_of_le {k : Nat} (h : k ≤ s.freeList.length) : grant s k = (granted s k, some (s.freeList.take k)) :=
  if_pos h

theorem grant_of_lt {k : Nat} (h : s.freeList.length < k) : grant s k = (refused s, none) :=
  if_neg (Nat.not_le_of_lt h)

theorem placeNew_of_granted {n : SlotNo} (idle : s.lowestIdle = some n)
    (free : openNeed s s.profiles[p] r ≤ s.freeList.length) :
    placeNew s p r = (openSlot (granted s (openNeed s s.profiles[p] r)) n p r
      (s.freeList.take (openNeed s s.profiles[p] r)), .appended) := by
  simp only [placeNew, idle, grant_of_le free]

theorem placeNew_of_refused {n : SlotNo} (idle : s.lowestIdle = some n)
    (short : s.freeList.length < openNeed s s.profiles[p] r) : placeNew s p r = (refused s, .wait) := by
  simp only [placeNew, idle, grant_of_lt short]

theorem placeNew_of_none (idle : s.lowestIdle = none) : placeNew s p r = (startEviction s, .wait) := by
  simp only [placeNew, idle]

/-- A record without an OPEN slot opens one, is refused the blocks, or finds no IDLE slot (R56, R57). -/
theorem placeNew_cases (s : State) (p : Fin 32) (r : TakenRecord) :
    (∃ n, s.lowestIdle = some n ∧ openNeed s s.profiles[p] r ≤ s.freeList.length
      ∧ placeNew s p r = (openSlot (granted s (openNeed s s.profiles[p] r)) n p r
        (s.freeList.take (openNeed s s.profiles[p] r)), .appended))
    ∨ (∃ n, s.lowestIdle = some n ∧ s.freeList.length < openNeed s s.profiles[p] r ∧ placeNew s p r = (refused s, .wait))
    ∨ (s.lowestIdle = none ∧ placeNew s p r = (startEviction s, .wait)) := by
  cases idle : s.lowestIdle with
  | none => exact .inr (.inr ⟨rfl, placeNew_of_none idle⟩)
  | some n =>
    obtain free | short := le_or_gt (openNeed s s.profiles[p] r) s.freeList.length
    · exact .inl ⟨n, rfl, free, placeNew_of_granted idle free⟩
    · exact .inr (.inl ⟨n, rfl, short, placeNew_of_refused idle short⟩)

section Open

variable {n : SlotNo} {b : Bundle} {age : Option PartTime}

theorem placeValid_of_none (none : s.openSlotOf p = none) : placeValid s p r = placeNew s p r := by
  simp only [placeValid, none]

theorem placeValid_of_over (found : s.openSlotOf p = some (n, b, age))
    (past : b.snapshot.byteLimit.toNat < b.bodyBytes + entrySize b.snapshot.stamp r.record.payload.length) :
    placeValid s p r = placeNew (closeSlot s n .byteLimit) p r := by
  simp only [placeValid, found, past, if_true]

theorem placeValid_of_room (found : s.openSlotOf p = some (n, b, age))
    (fits : b.bodyBytes + entrySize b.snapshot.stamp r.record.payload.length ≤ b.snapshot.byteLimit.toNat)
    (room : entrySize b.snapshot.stamp r.record.payload.length ≤ Config.blockSize - b.lastBytes) :
    placeValid s p r = (appendEntry s n b age r [], .appended) := by
  simp only [placeValid, found, fits.not_gt, room, if_true, if_false]

theorem placeValid_of_granted (found : s.openSlotOf p = some (n, b, age))
    (fits : b.bodyBytes + entrySize b.snapshot.stamp r.record.payload.length ≤ b.snapshot.byteLimit.toNat)
    (more : Config.blockSize - b.lastBytes < entrySize b.snapshot.stamp r.record.payload.length)
    (free : 1 ≤ s.freeList.length) :
    placeValid s p r = (appendEntry (granted s 1) n b age r (s.freeList.take 1), .appended) := by
  simp only [placeValid, found, fits.not_gt, more.not_ge, grant_of_le free, if_false]

theorem placeValid_of_refused (found : s.openSlotOf p = some (n, b, age))
    (fits : b.bodyBytes + entrySize b.snapshot.stamp r.record.payload.length ≤ b.snapshot.byteLimit.toNat)
    (more : Config.blockSize - b.lastBytes < entrySize b.snapshot.stamp r.record.payload.length)
    (short : s.freeList.length < 1) : placeValid s p r = (closeSlot (refused s) n .poolEmpty, .wait) := by
  simp only [placeValid, found, fits.not_gt, more.not_ge, grant_of_lt short, if_false]

end Open

/-- A record on a valid profile finds no OPEN slot, one that it would bring above its byte limit, or one that it fits: there the last block has room, one more block is granted, or it is refused (R54, R55, R58). -/
theorem placeValid_cases (s : State) (p : Fin 32) (r : TakenRecord) :
    (s.openSlotOf p = none ∧ placeValid s p r = placeNew s p r)
    ∨ (∃ n b age, s.openSlotOf p = some (n, b, age)
      ∧ b.snapshot.byteLimit.toNat < b.bodyBytes + entrySize b.snapshot.stamp r.record.payload.length
      ∧ placeValid s p r = placeNew (closeSlot s n .byteLimit) p r)
    ∨ (∃ n b age, s.openSlotOf p = some (n, b, age)
      ∧ b.bodyBytes + entrySize b.snapshot.stamp r.record.payload.length ≤ b.snapshot.byteLimit.toNat
      ∧ (entrySize b.snapshot.stamp r.record.payload.length ≤ Config.blockSize - b.lastBytes
          ∧ placeValid s p r = (appendEntry s n b age r [], .appended)
        ∨ Config.blockSize - b.lastBytes < entrySize b.snapshot.stamp r.record.payload.length
          ∧ (1 ≤ s.freeList.length
              ∧ placeValid s p r = (appendEntry (granted s 1) n b age r (s.freeList.take 1), .appended)
            ∨ s.freeList.length < 1 ∧ placeValid s p r = (closeSlot (refused s) n .poolEmpty, .wait)))) := by
  cases found : s.openSlotOf p with
  | none => exact .inl ⟨rfl, placeValid_of_none found⟩
  | some slot =>
    obtain ⟨n, b, age⟩ := slot
    refine .inr ?_
    obtain past | fits := Nat.lt_or_ge b.snapshot.byteLimit.toNat
      (b.bodyBytes + entrySize b.snapshot.stamp r.record.payload.length)
    · exact .inl ⟨n, b, age, rfl, past, placeValid_of_over found past⟩
    · refine .inr ⟨n, b, age, rfl, fits, ?_⟩
      obtain room | more := le_or_gt (entrySize b.snapshot.stamp r.record.payload.length) (Config.blockSize - b.lastBytes)
      · exact .inl ⟨room, placeValid_of_room found fits room⟩
      · obtain free | short := le_or_gt 1 s.freeList.length
        · exact .inr ⟨more, .inl ⟨free, placeValid_of_granted found fits more free⟩⟩
        · exact .inr ⟨more, .inr ⟨short, placeValid_of_refused found fits more short⟩⟩

theorem placeNew_result (s : State) (p : Fin 32) (r : TakenRecord) :
    (placeNew s p r).2 = .appended ∨ (placeNew s p r).2 = .wait := by
  obtain ⟨_, _, _, answer⟩ | ⟨_, _, _, answer⟩ | ⟨_, answer⟩ := placeNew_cases s p r
  · exact .inl (congrArg Prod.snd answer)
  · exact .inr (congrArg Prod.snd answer)
  · exact .inr (congrArg Prod.snd answer)

/-- A record on a valid profile is appended or waits (R54). -/
theorem placeValid_result (s : State) (p : Fin 32) (r : TakenRecord) :
    (placeValid s p r).2 = .appended ∨ (placeValid s p r).2 = .wait := by
  obtain ⟨_, answer⟩ | ⟨n, _, _, _, _, answer⟩ | ⟨_, _, _, _, _, ⟨_, answer⟩ | ⟨_, ⟨_, answer⟩ | ⟨_, answer⟩⟩⟩ :=
    placeValid_cases s p r
  · rw [answer]
    exact placeNew_result s p r
  · rw [answer]
    exact placeNew_result (closeSlot s n .byteLimit) p r
  · exact .inl (congrArg Prod.snd answer)
  · exact .inl (congrArg Prod.snd answer)
  · exact .inr (congrArg Prod.snd answer)

/-- A state with one more record appended counted (R37). -/
def counted (u : State) : State := { u with classify := { u.classify with appended := bump u.classify.appended } }

theorem place_of_appended (valid : s.profiles[p].valid = true) (answer : placeValid s p r = (u, .appended)) :
    place s p r = (counted u, .appended) := by
  simp only [place, valid, answer, if_true]
  rfl

theorem place_of_wait (valid : s.profiles[p].valid = true) (answer : placeValid s p r = (u, .wait)) :
    place s p r = (u, .wait) := by
  simp only [place, valid, answer, if_true]

/-- With the hold stage empty nothing is tried (R59). -/
theorem tryHeld_of_free (free : s.hold = none) : tryHeld s = s := by
  unfold tryHeld
  rw [free]
  split
  · rename_i held
    cases held
  · rfl

end Attempt

/-! ### The balance of records taken and records handled -/

/-- No counter of the CLASSIFY group stands at its largest value (R170). -/
def Unsaturated (s : State) : Prop := ∀ x ∈ s.classify.items, x.toNat < 4294967295

/-- Records appended, dropped or held. -/
def handledRecords (s : State) : Nat :=
  s.classify.appended.toNat + s.classify.missDrops.toNat + s.classify.ruleDrops.toNat + s.classify.routeInvalid.toNat
    + if s.hold.isSome then 1 else 0

/-- Records handled less records taken. -/
def balance (s : State) : Int := (handledRecords s : Int) - (s.classify.taken.toNat : Int)

/-- From `s` to `t` the balance rises by `k`, where no counter has come to its largest value. -/
def Gains (k : Int) (s t : State) : Prop := Unsaturated t → Unsaturated s ∧ balance t = balance s + k

section Balance

variable {s t u : State} {j k : Int}

theorem unsaturated_iff (s : State) :
    Unsaturated s ↔ s.classify.taken.toNat < 4294967295 ∧ s.classify.appended.toNat < 4294967295
      ∧ s.classify.missDrops.toNat < 4294967295 ∧ s.classify.ruleDrops.toNat < 4294967295
      ∧ s.classify.routeInvalid.toNat < 4294967295 ∧ s.classify.evictions.toNat < 4294967295
      ∧ s.classify.holdEntries.toNat < 4294967295 := by
  simp [Unsaturated, ClassifyCounters.items]

/-- A counter below its largest value after an increment has risen by one (R170). -/
theorem bump_of_lt {c : Counter} (free : (bump c).toNat < 4294967295) :
    (bump c).toNat = c.toNat + 1 ∧ c.toNat < 4294967295 := by
  unfold bump at free ⊢
  split at free
  · rename_i full
    rw [full] at free
    exact absurd free (by decide)
  · rename_i room
    rw [if_neg room]
    bv_omega

theorem Gains.trans (h : Gains j s t) (h' : Gains k t u) : Gains (j + k) s u := by
  intro free
  obtain ⟨free', later⟩ := h' free
  obtain ⟨free'', sooner⟩ := h free'
  exact ⟨free'', by rw [later, sooner, add_assoc]⟩

/-- Where CLASSIFY counters and hold stage stay, the balance does. -/
theorem gains_of_same (counters : t.classify = s.classify) (hold : t.hold = s.hold) : Gains 0 s t := by
  intro free
  unfold Unsaturated balance handledRecords at *
  rw [counters] at free ⊢
  rw [hold]
  exact ⟨free, (add_zero _).symm⟩

theorem Gains.refl (s : State) : Gains 0 s s := gains_of_same rfl rfl

/-- An operation before, or after, which leaves CLASSIFY counters and hold stage as they are. -/
theorem Gains.after (h : Gains k t u) (counters : t.classify = s.classify) (hold : t.hold = s.hold) : Gains k s u := by
  have both := (gains_of_same counters hold).trans h
  rwa [zero_add] at both

theorem Gains.before (h : Gains k s t) (counters : u.classify = t.classify) (hold : u.hold = t.hold) : Gains k s u := by
  have both := h.trans (gains_of_same counters hold)
  rwa [add_zero] at both

theorem gains_taken (counters : t.classify = { s.classify with taken := bump s.classify.taken }) (hold : t.hold = s.hold) :
    Gains (-1) s t := by
  simp only [Gains, unsaturated_iff, balance, handledRecords, counters, hold]
  rintro ⟨risen, rest⟩
  have rises := bump_of_lt risen
  exact ⟨⟨rises.2, rest⟩, by omega⟩

theorem gains_appended (counters : t.classify = { s.classify with appended := bump s.classify.appended })
    (hold : t.hold = s.hold) : Gains 1 s t := by
  simp only [Gains, unsaturated_iff, balance, handledRecords, counters, hold]
  rintro ⟨taken, risen, rest⟩
  have rises := bump_of_lt risen
  exact ⟨⟨taken, rises.2, rest⟩, by omega⟩

theorem gains_missDrops (counters : t.classify = { s.classify with missDrops := bump s.classify.missDrops })
    (hold : t.hold = s.hold) : Gains 1 s t := by
  simp only [Gains, unsaturated_iff, balance, handledRecords, counters, hold]
  rintro ⟨taken, appended, risen, rest⟩
  have rises := bump_of_lt risen
  exact ⟨⟨taken, appended, rises.2, rest⟩, by omega⟩

theorem gains_ruleDrops (counters : t.classify = { s.classify with ruleDrops := bump s.classify.ruleDrops })
    (hold : t.hold = s.hold) : Gains 1 s t := by
  simp only [Gains, unsaturated_iff, balance, handledRecords, counters, hold]
  rintro ⟨taken, appended, misses, risen, rest⟩
  have rises := bump_of_lt risen
  exact ⟨⟨taken, appended, misses, rises.2, rest⟩, by omega⟩

theorem gains_routeInvalid (counters : t.classify = { s.classify with routeInvalid := bump s.classify.routeInvalid })
    (hold : t.hold = s.hold) : Gains 1 s t := by
  simp only [Gains, unsaturated_iff, balance, handledRecords, counters, hold]
  rintro ⟨taken, appended, misses, rules, risen, rest⟩
  have rises := bump_of_lt risen
  exact ⟨⟨taken, appended, misses, rules, rises.2, rest⟩, by omega⟩

theorem gains_evictions (counters : t.classify = { s.classify with evictions := bump s.classify.evictions })
    (hold : t.hold = s.hold) : Gains 0 s t := by
  simp only [Gains, unsaturated_iff, balance, handledRecords, counters, hold]
  rintro ⟨taken, appended, misses, rules, invalid, risen, rest⟩
  exact ⟨⟨taken, appended, misses, rules, invalid, (bump_of_lt risen).2, rest⟩, by omega⟩

/-- A record enters the hold stage, which is counted in its own counter (R36). -/
theorem gains_held (counters : t.classify = { s.classify with holdEntries := bump s.classify.holdEntries })
    (before : s.hold = none) (after : t.hold.isSome = true) : Gains 1 s t := by
  simp only [Gains, unsaturated_iff, balance, handledRecords, counters, before, after]
  rintro ⟨taken, appended, misses, rules, invalid, evictions, risen⟩
  exact ⟨⟨taken, appended, misses, rules, invalid, evictions, (bump_of_lt risen).2⟩, by simp; omega⟩

/-- A held record leaves the hold stage (R36). -/
theorem gains_left (counters : t.classify = s.classify) (before : s.hold.isSome = true) (after : t.hold = none) :
    Gains (-1) s t := by
  simp only [Gains, unsaturated_iff, balance, handledRecords, counters, before, after]
  intro free
  exact ⟨free, by simp; omega⟩

end Balance

/-! ### Placement -/

section Placement

variable {s : State}

theorem EventReach.classify {t : State} (h : EventReach s t) : t.classify = s.classify := (congrArg State.classify h :)

theorem closeSlot_classify (s : State) (n : SlotNo) (cause : CloseCause) : (closeSlot s n cause).classify = s.classify :=
  (congrArg State.classify (closeSlot_closeReach s n cause) :)

theorem checkPoolLow_classify (s : State) : (checkPoolLow s).classify = s.classify := by
  unfold checkPoolLow
  split
  · exact (raise_reach { s with poolLowArmed := false } _).classify
  · rfl

theorem checkPoolExhausted_classify (s : State) : (checkPoolExhausted s).classify = s.classify := by
  unfold checkPoolExhausted
  split
  · exact (raise_reach { s with poolExhaustedArmed := false } _).classify
  · rfl

theorem returnChain_classify (s : State) (chain : List BlockNo) : (returnChain s chain).classify = s.classify := by
  unfold returnChain rearmPool
  split <;> rfl

theorem postAppend_classify (s : State) (n : SlotNo) (r : TakenRecord) : (postAppend s n r).classify = s.classify :=
  (congrArg State.classify (postAppend_closeReach s n r) :)

theorem appendEntry_classify (s : State) (n : SlotNo) (b : Bundle) (age : Option PartTime) (r : TakenRecord)
    (blocks : List BlockNo) : (appendEntry s n b age r blocks).classify = s.classify := postAppend_classify _ _ _

theorem openSlot_classify (s : State) (n : SlotNo) (p : Fin 32) (r : TakenRecord) (blocks : List BlockNo) :
    (openSlot s n p r blocks).classify = s.classify := postAppend_classify _ _ _

theorem startEviction_gains (s : State) : Gains 0 s (startEviction s) := by
  have hold : (startEviction s).hold = s.hold := (startEviction_reach s).hold
  unfold startEviction at hold ⊢
  split
  · rename_i n _ _ _
    refine gains_evictions ?_ (closeSlot_reach s n .evicted).hold
    exact congrArg (fun c : ClassifyCounters => { c with evictions := bump c.evictions }) (closeSlot_classify s n .evicted)
  · exact .refl s

theorem granted_gains (s : State) (k : Nat) : (granted s k).classify = s.classify ∧ (granted s k).hold = s.hold :=
  ⟨checkPoolLow_classify _, (checkPoolLow_reach _).hold⟩

theorem refused_gains (s : State) : (refused s).classify = s.classify ∧ (refused s).hold = s.hold :=
  ⟨checkPoolExhausted_classify _, (checkPoolExhausted_reach _).hold⟩

theorem placeNew_gains (s : State) (p : Fin 32) (r : TakenRecord) : Gains 0 s (placeNew s p r).1 := by
  obtain ⟨n, _, _, opens⟩ | ⟨n, _, _, refuses⟩ | ⟨_, evicts⟩ := placeNew_cases s p r
  · rw [opens]
    obtain ⟨counters, hold⟩ := granted_gains s (openNeed s s.profiles[p] r)
    exact gains_of_same ((openSlot_classify _ n p r _).trans counters) ((openSlot_reach _ n p r _).hold.trans hold)
  · rw [refuses]
    obtain ⟨counters, hold⟩ := refused_gains s
    exact gains_of_same counters hold
  · rw [evicts]
    exact startEviction_gains s

theorem placeValid_gains (s : State) (p : Fin 32) (r : TakenRecord) : Gains 0 s (placeValid s p r).1 := by
  obtain ⟨_, new⟩ | ⟨n, b, age, _, _, past⟩ | ⟨n, b, age, _, fits⟩ := placeValid_cases s p r
  · rw [new]
    exact placeNew_gains s p r
  · rw [past]
    exact (placeNew_gains _ p r).after (closeSlot_classify s n .byteLimit) (closeSlot_reach s n .byteLimit).hold
  · obtain ⟨_, ⟨_, room⟩ | ⟨_, ⟨_, grants⟩ | ⟨_, refuses⟩⟩⟩ := fits
    · rw [room]
      exact gains_of_same (appendEntry_classify s n b age r []) (appendEntry_reach s n b age r []).hold
    · rw [grants]
      obtain ⟨counters, hold⟩ := granted_gains s 1
      exact gains_of_same ((appendEntry_classify _ n b age r _).trans counters)
        ((appendEntry_reach _ n b age r _).hold.trans hold)
    · rw [refuses]
      obtain ⟨counters, hold⟩ := refused_gains s
      exact gains_of_same ((closeSlot_classify _ n .poolEmpty).trans counters)
        ((closeSlot_reach _ n .poolEmpty).hold.trans hold)

/-- An attempt handles the record unless it must wait (R34, R37, R54). -/
theorem place_gains (s : State) (p : Fin 32) (r : TakenRecord) :
    Gains (if (place s p r).2 = .wait then 0 else 1) s (place s p r).1 := by
  have placed := placeValid_gains s p r
  cases valid : s.profiles[p].valid with
  | false =>
    rw [place_of_invalid valid, if_neg nofun]
    exact gains_routeInvalid rfl rfl
  | true =>
    obtain appended | waits := placeValid_result s p r
    · rw [place_of_appended valid (Prod.ext rfl appended), if_neg nofun]
      have counted : Gains 1 (placeValid s p r).1 (counted (placeValid s p r).1) := gains_appended rfl rfl
      exact placed.trans counted
    · rw [place_of_wait valid (Prod.ext rfl waits), if_pos rfl]
      exact placed

theorem tryHeld_gains (s : State) : Gains 0 s (tryHeld s) := by
  by_cases run : s.opState = .run
  · cases holds : s.hold with
    | none => rw [tryHeld_of_free holds]; exact .refl s
    | some h =>
      have placed := place_gains s h.profile h.taken
      have stays := place_hold s h.profile h.taken
      rw [tryHeld_of_place run holds (Prod.eta _).symm]
      split
      · rename_i waits
        rwa [if_pos waits] at placed
      · rename_i handled
        rw [if_neg handled] at placed
        have left := placed.trans (gains_left (t := { (place s h.profile h.taken).1 with hold := none, evictionMark := none })
          rfl (by rw [stays, holds]; rfl) rfl)
        exact left
  · rw [tryHeld_of_not_run run]
    exact .refl s

theorem tryHeldFor_gains (s : State) (p : Fin 32) : Gains 0 s (tryHeldFor s p) := by
  unfold tryHeldFor
  split
  · split
    · exact tryHeld_gains s
    · exact .refl s
  · exact .refl s

/-- A record handed over is appended, dropped or held (R24, R36). -/
theorem handOver_gains (free : s.hold = none) (p : Fin 32) (r : TakenRecord) : Gains 1 s (handOver s p r) := by
  have placed := place_gains s p r
  have stays := place_hold s p r
  rw [handOver_of_place (Prod.eta _).symm]
  split
  · rename_i waits
    rw [if_pos waits] at placed
    have entered := placed.trans (gains_held (t := { (place s p r).1 with
      hold := some ⟨r, p⟩
      classify := { (place s p r).1.classify with holdEntries := bump (place s p r).1.classify.holdEntries } })
      rfl (stays.trans free) rfl)
    exact entered
  · rename_i handled
    rwa [if_neg handled] at placed

theorem giveBack_gains (s : State) (chain : List BlockNo) : Gains 0 s (giveBack s chain) :=
  (tryHeld_gains _).after (returnChain_classify s chain) (returnChain_reach s chain).hold

theorem slotBecameIdle_gains (s : State) : Gains 0 s (slotBecameIdle s) := by
  unfold slotBecameIdle
  split
  · exact tryHeld_gains s
  · split
    · have ended := endDrain_drainReach s .ok []
      exact gains_of_same (congrArg State.classify ended :) (congrArg State.hold ended :)
    · exact .refl s
  · exact .refl s

theorem moveHead_gains (s : State) (cls : BundleClass) : Gains 0 s (moveHead s cls) := by
  obtain same | ⟨n, rest, b, cause, qc, _, _, moved⟩ := moveHead_cases s cls
  · rw [same]
    exact .refl s
  · rw [moved]
    refine (slotBecameIdle_gains _).after ?_ ?_
    · cases cls <;> rfl
    · cases cls <;> rfl

theorem removeOldest_gains (k : Nat) (s : State) : Gains 0 s (removeOldest k s) := by
  induction k generalizing s with
  | zero => exact .refl s
  | succ k ih =>
    unfold removeOldest
    split
    · exact .refl s
    · rename_i e rest _
      dsimp only
      split
      · exact (ih { s with retention := rest, releasedHold := some e.desc.chain }).after rfl rfl
      · exact ((giveBack_gains { s with retention := rest } _).after rfl rfl).trans (ih _)

theorem returnHold_gains (s : State) : Gains 0 s (returnHold s) := by
  unfold returnHold
  split
  · exact .refl s
  · exact (giveBack_gains { s with releasedHold := none } _).after rfl rfl

theorem reportMiss_same (s : State) (r : TakenRecord) :
    (reportMiss s r).classify = s.classify ∧ (reportMiss s r).hold = s.hold := by
  unfold reportMiss
  split
  · have raised := raise_reach { s with routeMissArmed := false } (.routeMiss r.port r.record.node r.record.channel)
    exact ⟨raised.classify, raised.build.hold⟩
  · exact ⟨rfl, rfl⟩

theorem handleHit_gains (free : s.hold = none) (i : Fin 128) (r : TakenRecord) : Gains 1 s (handleHit s i r) := by
  unfold handleHit
  dsimp only
  split
  · exact gains_ruleDrops rfl rfl
  · rename_i p _
    refine (handOver_gains ?_ p r).after rfl rfl
    exact free

theorem handleMiss_gains (free : s.hold = none) (r : TakenRecord) : Gains 1 s (handleMiss s r) := by
  obtain ⟨counters, hold⟩ := reportMiss_same s r
  unfold handleMiss
  dsimp only
  split
  · refine gains_missDrops ?_ hold
    exact congrArg (fun c : ClassifyCounters => { c with missDrops := bump c.missDrops }) counters
  · exact (handOver_gains (hold.trans free) _ r).after counters hold

/-- A taken record is handled: dropped and counted, or handed over (R24, R27, R28). -/
theorem classified_gains (free : s.hold = none) (r : TakenRecord) : Gains 1 s (classified s r) := by
  unfold classified
  split
  · exact handleHit_gains free _ r
  · exact handleMiss_gains free r

theorem classifierTake_gains (s : State) : Gains 0 s (classifierTake s) := by
  cases next : s.nextTake with
  | none =>
    unfold classifierTake
    rw [next]
    exact .refl s
  | some taken =>
    obtain ⟨p, r, rest⟩ := taken
    obtain ⟨_, free, _⟩ := nextTake_eq_some next
    rw [classifierTake_of_next next]
    have counted : Gains (-1) s (afterTake s p rest) := gains_taken rfl rfl
    exact counted.trans (classified_gains (s := afterTake s p rest) free ⟨p, r⟩)

end Placement

/-! ### Every command -/

section Commands

variable {c : Instr} {s t : State}

theorem startFirst_gains (s : State) : Gains 0 s (startFirst s) := by
  unfold startFirst
  split
  · split
    · exact .refl s
    · rename_i cls _
      cases queue : s.queue cls with
      | nil => rw [startNewBundle_of_empty queue]; exact .refl s
      | cons d rest =>
        rw [startNewBundle_of_queue queue]
        refine (moveHead_gains _ cls).after ?_ ?_
        · cases cls <;> rfl
        · cases cls <;> rfl
  · exact .refl s

theorem completeBundle_gains (s : State) : Gains 0 s (completeBundle s) := by
  unfold completeBundle
  split
  · split
    · exact (returnHold_gains { s with tx := none }).after rfl rfl
    · exact gains_of_same rfl rfl
  · exact .refl s

theorem linkDown_gains (s : State) : Gains 0 s (linkDown s) := by
  have aborted : Gains 0 s (abortTransmission s) := by
    unfold abortTransmission
    split
    case h_5 => exact (returnHold_gains { s with tx := none }).after rfl rfl
    all_goals exact gains_of_same rfl rfl
  exact aborted.before rfl rfl

theorem takeAck_gains (s : State) (n : Word16) : Gains 0 s (takeAck s n) := by
  unfold takeAck
  split
  · exact gains_of_same rfl rfl
  · exact (removeOldest_gains _ s).before rfl rfl

theorem takeNak_gains (s : State) (n : Word16) : Gains 0 s (takeNak s n) := by
  unfold takeNak
  split
  · exact gains_of_same rfl rfl
  · exact (removeOldest_gains _ s).before rfl rfl

theorem exec_gains (answer : exec c s = .next t) (noReset : performsReset c s = false)
    (reads : ∀ id group port first count clear, c ≠ .readCounters id group port first count clear) : Gains 0 s t := by
  have touched := exec_touches answer noReset
  have counts (trunk : TrunkCounters) : Gains 0 s { s with trunk := trunk } := gains_of_same rfl rfl
  have blind (u v : State) (h : Gains 0 s u) : Gains 0 s (u.requestOf v) := h.before rfl rfl
  cases c with
  | classifierTake => exact live_keeps answer (.refl s) (classifierTake_gains s)
  | slotMove cls => exact live_keeps (f := (moveHead · cls)) answer (.refl s) (moveHead_gains s cls)
  | firstTransmissionStart => exact live_keeps answer (.refl s) (startFirst_gains s)
  | bundleTransmissionComplete => exact live_keeps answer (.refl s) (completeBundle_gains s)
  | carrierLoss =>
    have answer : execCarrierLoss s = .next t := answer
    unfold execCarrierLoss at answer
    split at answer
    · cases answer
      exact .refl s
    · rename_i carrier
      have carrier : s.carrier = true := by simpa using carrier
      split at answer
      · cases answer
        exact gains_of_same rfl rfl
      · rename_i working
        cases answer
        rw [loseCarrier_of_no_reset (by simpa [performsReset, carrier, working] using noReset)]
        exact linkDown_gains s
  | bundleAck n =>
    exact live_keeps (f := (received · (takeAck · n))) answer (.refl s) (received_keeps (.refl s) counts (takeAck_gains s n))
  | bundleNak n =>
    exact live_keeps (f := (received · (takeNak · n))) answer (.refl s) (received_keeps (.refl s) counts (takeNak_gains s n))
  | writeProfile id profile record =>
    refine command_keeps answer blind (fun u h => ?_) (.refl s)
    split
    · have closes := closeProfile_closeReach
        { u with profiles := u.profiles.set _ (profileOf record) (Fin.isLt (Fin.ofNat 32 profile.toNat)) }
        (Fin.ofNat 32 profile.toNat) .profileChanged
      exact h.trans ((tryHeldFor_gains _ _).after (congrArg State.classify closes :) (congrArg State.hold closes :))
    · exact h
  | resume id =>
    refine command_keeps answer blind (fun u h => ?_) (.refl s)
    split
    · exact h.trans ((tryHeld_gains { u with opState := .run }).after rfl rfl)
    · exact h
    · exact h
  | readCounters id group port first count clear => exact absurd rfl (reads id group port first count clear)
  | powerOn => cases noReset
  | resetNAsserted => cases noReset
  | _ => exact gains_of_same (congrArg State.classify touched :) (congrArg State.hold touched :)

end Commands

/-- Settles O27: a command but a reset and a READ_COUNTERS leaves the balance of records taken and handled as it was. -/
theorem everyTakenRecordIsCountedOnce : Obligations.EveryTakenRecordIsCountedOnce := by
  intro c s t answer noReset reads free
  obtain ⟨_, kept⟩ := exec_gains answer noReset reads free
  dsimp only
  unfold balance handledRecords at kept
  omega

end Sys2Proof.Machine
end

section
/-! Proofs: no step writes to a chain once its bundle has closed (R48, R71, R79, R111): where an attempt writes, and what every operation leaves of the blocks outside the Slot Table and in CLOSED slots. -/

namespace Sys2Proof.Machine

open Safety

/-! ### What an attempt leaves in slots, Free List and block storage (R55, R56, R70) -/

section Attempt

variable {s : State}

/-- The checks that follow a request leave blocks where they are (R73). -/
theorem checkPoolLow_blocks (s : State) :
    (checkPoolLow s).freeList = s.freeList ∧ (checkPoolLow s).blockMem = s.blockMem ∧ (checkPoolLow s).slots = s.slots := by
  unfold checkPoolLow
  split
  · have raised := raise_reach { s with poolLowArmed := false } (.poolLow s.freeList.length)
    exact ⟨(congrArg State.freeList raised :), (congrArg State.blockMem raised :), (congrArg State.slots raised :)⟩
  · exact ⟨rfl, rfl, rfl⟩

theorem checkPoolExhausted_blocks (s : State) :
    (checkPoolExhausted s).freeList = s.freeList ∧ (checkPoolExhausted s).blockMem = s.blockMem
      ∧ (checkPoolExhausted s).slots = s.slots := by
  unfold checkPoolExhausted
  split
  · have raised := raise_reach { s with poolExhaustedArmed := false } .poolExhausted
    exact ⟨(congrArg State.freeList raised :), (congrArg State.blockMem raised :), (congrArg State.slots raised :)⟩
  · exact ⟨rfl, rfl, rfl⟩

theorem granted_freeList (s : State) (k : Nat) : (granted s k).freeList = s.freeList.drop k := (checkPoolLow_blocks _).1
theorem granted_blockMem (s : State) (k : Nat) : (granted s k).blockMem = s.blockMem := (checkPoolLow_blocks _).2.1
theorem granted_slots (s : State) (k : Nat) : (granted s k).slots = s.slots := (checkPoolLow_blocks _).2.2
theorem refused_freeList (s : State) : (refused s).freeList = s.freeList := (checkPoolExhausted_blocks _).1
theorem refused_blockMem (s : State) : (refused s).blockMem = s.blockMem := (checkPoolExhausted_blocks _).2.1
theorem refused_slots (s : State) : (refused s).slots = s.slots := (checkPoolExhausted_blocks _).2.2

theorem granted_reach (s : State) (k : Nat) : BuildReach s (granted s k) := by
  refine BuildReach.trans ?_ (checkPoolLow_reach _)
  rfl

theorem refused_reach (s : State) : BuildReach s (refused s) := by
  refine BuildReach.trans ?_ (checkPoolExhausted_reach _)
  rfl

/-- What the post-append checks make of the slot that took the entry (R49). -/
def appendedSlot (r : TakenRecord) (b : Bundle) (idle age : Option PartTime) : Slot :=
  if r.record.urgent then .closed b .urgent .express
  else if r.record.endFlag then .closed b .endFlag b.snapshot.cls
  else if b.recordCount = b.snapshot.recordLimit.toNat then .closed b .recordLimit b.snapshot.cls
  else .opened b idle age

theorem postAppend_slots {n : SlotNo} {b : Bundle} {idle age : Option PartTime} (opened : s.slots[n] = .opened b idle age)
    (r : TakenRecord) (m : SlotNo) :
    (postAppend s n r).slots[m] = if m = n then appendedSlot r b idle age else s.slots[m] := by
  unfold postAppend appendedSlot
  split
  · exact closeSlot_slots opened .urgent m
  · split
    · exact closeSlot_slots opened .endFlag m
    · simp only [opened]
      split
      · exact closeSlot_slots opened .recordLimit m
      · split
        · rename_i same
          rw [same, opened]
        · rfl

/-- The bundle after an append (R55). -/
def Bundle.appended (b : Bundle) (r : TakenRecord) (blocks : List BlockNo) : Bundle :=
  { b with
    recordCount := b.recordCount + 1
    bodyBytes := b.bodyBytes + entrySize b.snapshot.stamp r.record.payload.length
    chain := b.chain ++ blocks
    lastBytes := if blocks = [] then b.lastBytes + entrySize b.snapshot.stamp r.record.payload.length
      else entrySize b.snapshot.stamp r.record.payload.length - (Config.blockSize - b.lastBytes) }

/-- The stamp of an entry appended now (R42). -/
def entryStamp (s : State) (b : Bundle) : Option Word16 :=
  if b.snapshot.stamp then some (stampOf s.partTime b.openTime) else none

/-- A state in which an entry has been written and its slot brought up to date, before the post-append checks. -/
def withEntry (s : State) (n : SlotNo) (b : Bundle) (idle age : Option PartTime) (order : List SlotNo) (mem : Memory) : State :=
  { s with blockMem := mem, openOrder := order }.setSlot n (.opened b idle age)

theorem appendEntry_eq (s : State) (n : SlotNo) (b : Bundle) (age : Option PartTime) (r : TakenRecord)
    (blocks : List BlockNo) :
    appendEntry s n b age r blocks = postAppend
      (withEntry s n (b.appended r blocks) (deadlineAfter s.partTime b.snapshot.idleTime) age s.openOrder
        (writeContent s.blockMem (b.chain ++ blocks) b.contentLength (entryBytes r b.recordCount (entryStamp s b)))) n r := rfl

/-- The bundle of a slot that opens with a record (R56). -/
def openedBundle (s : State) (p : Fin 32) (r : TakenRecord) (blocks : List BlockNo) : Bundle where
  snapshot :=
    { profile := p
      destination := s.profiles[p].destination
      cls := s.profiles[p].cls
      recordLimit := s.profiles[p].recordLimit
      byteLimit := s.profiles[p].byteLimit
      idleTime := s.profiles[p].idleTime
      ageLimit := s.profiles[p].ageLimit
      stamp := s.profiles[p].stamp
      templateLength := (s.templateBytes s.profiles[p]).length }
  recordCount := 1
  bodyBytes := entrySize s.profiles[p].stamp r.record.payload.length
  openTime := s.partTime
  chain := blocks
  lastBytes := (s.templateBytes s.profiles[p]).length + entrySize s.profiles[p].stamp r.record.payload.length
    - Config.blockSize * (blocks.length - 1)

/-- The content a slot opens with (R56). -/
def openingContent (s : State) (p : Fin 32) (r : TakenRecord) : List Byte :=
  s.templateBytes s.profiles[p] ++ entryBytes r 0 (if s.profiles[p].stamp then some 0 else none)

theorem openSlot_eq (s : State) (n : SlotNo) (p : Fin 32) (r : TakenRecord) (blocks : List BlockNo) :
    openSlot s n p r blocks = postAppend
      (withEntry s n (openedBundle s p r blocks) (deadlineAfter s.partTime s.profiles[p].idleTime)
        (deadlineAfter s.partTime s.profiles[p].ageLimit) (s.openOrder ++ [n])
        (writeContent s.blockMem blocks 0 (openingContent s p r))) n r := rfl

theorem withEntry_slots (s : State) (n : SlotNo) (b : Bundle) (idle age : Option PartTime) (order : List SlotNo)
    (mem : Memory) (m : SlotNo) :
    (withEntry s n b idle age order mem).slots[m] = if m = n then .opened b idle age else s.slots[m] :=
  State.setSlot_get { s with blockMem := mem, openOrder := order } n m _

/-- The entry, the checks: what stands in the slots (R49, R55, R56). -/
theorem postAppend_withEntry_slots (s : State) (n : SlotNo) (b : Bundle) (idle age : Option PartTime)
    (order : List SlotNo) (mem : Memory) (r : TakenRecord) (m : SlotNo) :
    (postAppend (withEntry s n b idle age order mem) n r).slots[m]
      = if m = n then appendedSlot r b idle age else s.slots[m] := by
  have opened : (withEntry s n b idle age order mem).slots[n] = .opened b idle age := by
    rw [withEntry_slots, if_pos rfl]
  rw [postAppend_slots opened]
  split
  · rfl
  · rename_i other
    rw [withEntry_slots, if_neg other]

theorem postAppend_blockMem (s : State) (n : SlotNo) (r : TakenRecord) : (postAppend s n r).blockMem = s.blockMem :=
  (congrArg State.blockMem (postAppend_closeReach s n r) :)

theorem postAppend_freeList (s : State) (n : SlotNo) (r : TakenRecord) : (postAppend s n r).freeList = s.freeList :=
  (congrArg State.freeList (postAppend_closeReach s n r) :)

theorem entryBytes_length (r : TakenRecord) (index : Nat) (stamp : Bool) (w : Word16) :
    (entryBytes r index (if stamp then some w else none)).length = entrySize stamp r.record.payload.length := by
  cases stamp <;> simp [entryBytes, entrySize, be16] <;> omega

theorem entryStamp_length (s : State) (b : Bundle) (r : TakenRecord) (index : Nat) :
    (entryBytes r index (entryStamp s b)).length = entrySize b.snapshot.stamp r.record.payload.length :=
  entryBytes_length r index b.snapshot.stamp _

theorem openingContent_length (s : State) (p : Fin 32) (r : TakenRecord) :
    (openingContent s p r).length
      = (s.templateBytes s.profiles[p]).length + entrySize s.profiles[p].stamp r.record.payload.length := by
  rw [openingContent, List.length_append, entryBytes_length]

end Attempt

/-! ### Blocks and the bytes in them -/

/-- The chains of the bundles that have left the Slot Table: Emission Queues, Retention List, released-bundle hold (R74). -/
def State.outside (s : State) : List BlockNo :=
  s.expressQueue.flatMap Descriptor.chain ++ s.bulkQueue.flatMap Descriptor.chain
    ++ s.retention.flatMap (fun e => e.desc.chain) ++ s.releasedHold.getD []

/-- A block holds the same bytes in both memories. -/
def SameBytes (m m' : Memory) (x : BlockNo) : Prop := ∀ a, a / 128 = x.val → m'.read a = m.read a

theorem SameBytes.refl (m : Memory) (x : BlockNo) : SameBytes m m x := fun _ _ => rfl

theorem SameBytes.trans {m m' m'' : Memory} {x : BlockNo} (h : SameBytes m m' x) (h' : SameBytes m' m'' x) :
    SameBytes m m'' x := fun a at_x => (h' a at_x).trans (h a at_x)

theorem sameBytes_of_eq {m m' : Memory} (same : m' = m) (x : BlockNo) : SameBytes m m' x := same ▸ .refl m x

/-- The content of a chain whose blocks hold the same bytes (R71). -/
theorem readContent_of_sameBytes {m m' : Memory} {chain : List BlockNo} {k : Nat} (fits : k ≤ 128 * chain.length)
    (same : ∀ x ∈ chain, SameBytes m m' x) : readContent m' chain k = readContent m chain k := by
  refine readContent_congr fun i lt => ?_
  obtain ⟨x, mem, at_x⟩ := contentAddr_block (chain := chain) (k := i) (by omega)
  exact same x mem _ at_x

/-- A run of content bytes is written in the blocks of its chain alone. -/
theorem sameBytes_writeContent {m : Memory} {chain : List BlockNo} {start : Nat} {bytes : List Byte}
    (fits : start + bytes.length ≤ 128 * chain.length) {x : BlockNo} (other : x ∉ chain) :
    SameBytes m (writeContent m chain start bytes) x := by
  intro a at_x
  refine read_writeContent_ne m chain start bytes a fun k from_start below same => ?_
  obtain ⟨y, mem, at_y⟩ := contentAddr_block (chain := chain) (k := k) (by omega)
  rw [← same, at_x] at at_y
  exact other (Fin.ext at_y ▸ mem)

/-! ### Each block with one holder (R75) -/

section Apart

variable {s : State}

theorem heldBlocks_eq (s : State) : heldBlocks s = s.slots.toList.flatMap slotChain ++ s.outside := by
  unfold heldBlocks State.outside
  simp only [List.append_assoc]

theorem blocks_nodup (h : PoolConserved s) : (s.freeList ++ (s.slots.toList.flatMap slotChain ++ s.outside)).Nodup := by
  rw [← heldBlocks_eq]
  exact ((poolConserved_iff_perm s).mp h).nodup_iff.mpr (List.nodup_finRange 512)

theorem mem_slotBlocks {n : SlotNo} {x : BlockNo} (h : x ∈ slotChain s.slots[n]) :
    x ∈ s.slots.toList.flatMap slotChain :=
  List.mem_flatMap_of_mem (by simp) h

/-- No block stands in two places of the pool. -/
structure BlocksApart (s : State) : Prop where
  free_slot : ∀ x ∈ s.freeList, ∀ n : SlotNo, x ∉ slotChain s.slots[n]
  free_outside : ∀ x ∈ s.freeList, x ∉ s.outside
  slot_slot : ∀ n m : SlotNo, n ≠ m → ∀ x ∈ slotChain s.slots[n], x ∉ slotChain s.slots[m]
  slot_outside : ∀ n : SlotNo, ∀ x ∈ slotChain s.slots[n], x ∉ s.outside
  slot_nodup : ∀ n : SlotNo, (slotChain s.slots[n]).Nodup
  free_nodup : s.freeList.Nodup

theorem blocksApart (h : PoolConserved s) : BlocksApart s := by
  obtain ⟨freeNodup, heldNodup, freeHeld⟩ := List.nodup_append.mp (blocks_nodup h)
  obtain ⟨slotsNodup, _, slotsOutside⟩ := List.nodup_append.mp heldNodup
  obtain ⟨each, pairs⟩ := List.nodup_flatMap.mp slotsNodup
  have slotMem (n : SlotNo) : s.slots[n] ∈ s.slots.toList := by simp
  have apart (n m : SlotNo) (lt : n < m) : List.Disjoint (slotChain s.slots[n]) (slotChain s.slots[m]) := by
    have at_pair := List.pairwise_iff_getElem.mp pairs n.val m.val (by simp) (by simp) lt
    simpa [Function.onFun] using at_pair
  exact
    { free_slot := fun x free n held => freeHeld x free x (List.mem_append_left _ (mem_slotBlocks held)) rfl
      free_outside := fun x free held => freeHeld x free x (List.mem_append_right _ held) rfl
      slot_slot := fun n m other x mem mem' => by
        obtain lt | lt := Nat.lt_or_gt_of_ne fun same => other (Fin.ext same)
        · exact apart n m lt mem mem'
        · exact apart m n lt mem' mem
      slot_outside := fun n x mem held => slotsOutside x (mem_slotBlocks mem) x held rfl
      slot_nodup := fun n => each _ (slotMem n)
      free_nodup := freeNodup }

end Apart

/-! ### Operations that leave closed content as it is -/

/-- From `s` to `t` no block has joined those outside the Slot Table, these hold the bytes they held, and every CLOSED slot stands with its bytes. -/
structure Sealed (s t : State) : Prop where
  outside : ∀ x ∈ t.outside, x ∈ s.outside ∧ SameBytes s.blockMem t.blockMem x
  closed : ∀ (n : SlotNo) b cause cls, s.slots[n] = .closed b cause cls →
    t.slots[n] = .closed b cause cls ∧ ∀ x ∈ b.chain, SameBytes s.blockMem t.blockMem x

section Sealing

variable {s t u : State}

theorem Sealed.trans (h : Sealed s t) (h' : Sealed t u) : Sealed s u where
  outside x mem :=
    have later := h'.outside x mem
    have sooner := h.outside x later.1
    ⟨sooner.1, sooner.2.trans later.2⟩
  closed n b cause cls stands :=
    have sooner := h.closed n b cause cls stands
    have later := h'.closed n b cause cls sooner.1
    ⟨later.1, fun x mem => (sooner.2 x mem).trans (later.2 x mem)⟩

/-- Nothing is written, no CLOSED slot changes, and no block joins those outside. -/
theorem sealed_of_unwritten (mem : t.blockMem = s.blockMem) (outside : ∀ x ∈ t.outside, x ∈ s.outside)
    (closed : ∀ (n : SlotNo) b cause cls, s.slots[n] = .closed b cause cls → t.slots[n] = .closed b cause cls) :
    Sealed s t where
  outside x mem' := ⟨outside x mem', sameBytes_of_eq mem x⟩
  closed n b cause cls stands := ⟨closed n b cause cls stands, fun x _ => sameBytes_of_eq mem x⟩

theorem sealed_of_same (mem : t.blockMem = s.blockMem) (outside : t.outside = s.outside) (slots : t.slots = s.slots) :
    Sealed s t :=
  sealed_of_unwritten mem (fun _ held => outside ▸ held) fun _ _ _ _ stands => slots ▸ stands

theorem Sealed.refl (s : State) : Sealed s s := sealed_of_same rfl rfl rfl

theorem outside_congr (express : t.expressQueue = s.expressQueue) (bulk : t.bulkQueue = s.bulkQueue)
    (retained : t.retention = s.retention) (hold : t.releasedHold = s.releasedHold) : t.outside = s.outside := by
  unfold State.outside
  rw [express, bulk, retained, hold]

theorem BuildReach.outside (h : BuildReach s t) : t.outside = s.outside :=
  outside_congr (congrArg State.expressQueue h :) (congrArg State.bulkQueue h :) (congrArg State.retention h :)
    (congrArg State.releasedHold h :)

theorem TrialReach.outside (h : TrialReach s t) : t.outside = s.outside :=
  outside_congr (congrArg State.expressQueue h :) (congrArg State.bulkQueue h :) (congrArg State.retention h :)
    (congrArg State.releasedHold h :)

theorem closeSlot_blockMem (s : State) (n : SlotNo) (cause : CloseCause) : (closeSlot s n cause).blockMem = s.blockMem :=
  (congrArg State.blockMem (closeSlot_closeReach s n cause) :)

theorem sealed_closeSlot (s : State) (n : SlotNo) (cause : CloseCause) : Sealed s (closeSlot s n cause) := by
  refine sealed_of_unwritten (closeSlot_blockMem s n cause) (fun x mem => ?_) fun m b cause' cls stands => ?_
  · rwa [(closeSlot_reach s n cause).outside] at mem
  · by_cases opened : slotOpen s.slots[n] = true
    · obtain ⟨b', idle, age, hs⟩ := (slotOpen_iff _).mp opened
      rw [closeSlot_slots hs, if_neg fun same => nomatch (same ▸ stands).symm.trans hs]
      exact stands
    · rw [closeSlot_of_not_open (Bool.eq_false_iff.mpr opened)]
      exact stands

/-- An entry written in the chain of a slot that is not CLOSED, along blocks of that slot and of the Free List (R55, R56). -/
theorem sealed_write (apart : BlocksApart s) {n : SlotNo} {chain : List BlockNo} {start : Nat} {bytes : List Byte}
    (fits : start + bytes.length ≤ 128 * chain.length)
    (along : ∀ x ∈ chain, x ∈ s.freeList ∨ x ∈ slotChain s.slots[n])
    (notClosed : ∀ b cause cls, s.slots[n] ≠ .closed b cause cls)
    (mem : t.blockMem = writeContent s.blockMem chain start bytes) (outside : t.outside = s.outside)
    (slots : ∀ m : SlotNo, m ≠ n → t.slots[m] = s.slots[m]) : Sealed s t where
  outside x held := by
    rw [outside] at held
    refine ⟨held, mem ▸ sameBytes_writeContent fits fun written => ?_⟩
    obtain free | here := along x written
    · exact apart.free_outside x free held
    · exact apart.slot_outside n x here held
  closed m b cause cls stands := by
    have other : m ≠ n := fun same => notClosed b cause cls (same ▸ stands)
    refine ⟨(slots m other).trans stands, fun x held => mem ▸ sameBytes_writeContent fits fun written => ?_⟩
    have held : x ∈ slotChain s.slots[m] := by rw [stands]; exact held
    obtain free | here := along x written
    · exact apart.free_slot x free m held
    · exact apart.slot_slot m n other x held here

end Sealing

/-! ### Placement -/

/-- What an attempt relies on: each block with one holder, every bundle sound, the tables in range. -/
structure Stocked (s : State) : Prop where
  pool : PoolConserved s
  built : BuildSound s

section Placement

variable {s t : State}

theorem Stocked.of_pool (h : Stocked s) (pool : t.pool = s.pool) (built : BuildSound t) : Stocked t :=
  ⟨(poolConserved_iff_pool t).mpr (pool.trans ((poolConserved_iff_pool s).mp h.pool)), built⟩

/-- The bytes of an entry appended fit the chain (R44, R71). -/
theorem appended_fits {b : Bundle} (sound : BundleSound b) {size : Nat} (small : size ≤ 126) {blocks : List BlockNo}
    (placed : blocks = [] ∧ size ≤ 128 - b.lastBytes ∨ blocks.length = 1 ∧ 128 - b.lastBytes < size) :
    b.contentLength + size ≤ 128 * (b.chain ++ blocks).length := by
  obtain ⟨full, _, last_le⟩ := sound.chain
  rw [List.length_append]
  obtain ⟨rfl, fits⟩ | ⟨one, _⟩ := placed
  · simp only [List.length_nil]
    omega
  · omega

/-- The bytes that a slot opens with fit the blocks it asks for (R44, R71). -/
theorem opening_fits (tables : TablesFit s) (p : Fin 32) {r : TakenRecord} (payload : r.record.payload.length ≤ 120) :
    (s.templateBytes s.profiles[p]).length + entrySize s.profiles[p].stamp r.record.payload.length
      ≤ 128 * openNeed s s.profiles[p] r := by
  have template := tables.templateBytes_le s.profiles[p]
  have size := (entrySize_bounds s.profiles[p].stamp payload).2
  unfold openNeed Config.blockSize
  split <;> omega

theorem openNeed_le_two (s : State) (prof : Profile) (r : TakenRecord) : openNeed s prof r ≤ 2 := by
  unfold openNeed
  split <;> omega

theorem granted_templateBytes (s : State) (k : Nat) (prof : Profile) :
    (granted s k).templateBytes prof = s.templateBytes prof := by
  unfold State.templateBytes
  rw [(granted_reach s k).templates]

theorem granted_openingContent (s : State) (k : Nat) (p : Fin 32) (r : TakenRecord) :
    openingContent (granted s k) p r = openingContent s p r := by
  unfold openingContent
  rw [(granted_reach s k).profiles, granted_templateBytes]

theorem sealed_placeNew (h : Stocked s) (p : Fin 32) {r : TakenRecord} (payload : r.record.payload.length ≤ 120) :
    Sealed s (placeNew s p r).1 := by
  obtain ⟨n, idle, free, opens⟩ | ⟨n, _, _, refuses⟩ | ⟨_, evicts⟩ := placeNew_cases s p r
  · have vacant := lowestIdle_eq_some idle
    have apart := blocksApart h.pool
    rw [opens]
    refine sealed_write (n := n) apart (chain := s.freeList.take (openNeed s s.profiles[p] r)) (start := 0)
      (bytes := openingContent s p r) ?_ (fun x mem => .inl (List.mem_of_mem_take mem)) (fun b cause cls stands => ?_)
      ?_ ?_ fun m other => ?_
    · rw [openingContent_length, List.length_take_of_le free, Nat.zero_add]
      exact opening_fits h.built.tables p payload
    · cases vacant.symm.trans stands
    · rw [openSlot_eq, postAppend_blockMem, granted_openingContent]
      exact congrArg (fun m => writeContent m _ _ _) (granted_blockMem s _)
    · exact ((openSlot_reach _ n p r _).outside).trans (granted_reach s _).outside
    · rw [openSlot_eq, postAppend_withEntry_slots, if_neg other, granted_slots]
  · rw [refuses]
    exact sealed_of_same (refused_blockMem s) (refused_reach s).outside (refused_slots s)
  · rw [evicts]
    unfold startEviction
    split
    · rename_i n _ _ _
      exact (sealed_closeSlot s n .evicted).trans (sealed_of_same rfl rfl rfl)
    · exact .refl s

/-- An entry appended to an OPEN slot, the request for its block being answered (R55). -/
theorem sealed_appendEntry (h : Stocked s) {u : State} (mem : u.blockMem = s.blockMem) (slots : u.slots = s.slots)
    (outside : u.outside = s.outside) {n : SlotNo} {b : Bundle} {idle age : Option PartTime}
    (opened : s.slots[n] = .opened b idle age) {r : TakenRecord} (payload : r.record.payload.length ≤ 120)
    {blocks : List BlockNo} (free : ∀ x ∈ blocks, x ∈ s.freeList)
    (placed : blocks = [] ∧ entrySize b.snapshot.stamp r.record.payload.length ≤ 128 - b.lastBytes
      ∨ blocks.length = 1 ∧ 128 - b.lastBytes < entrySize b.snapshot.stamp r.record.payload.length) :
    Sealed s (appendEntry u n b age r blocks) := by
  refine sealed_write (n := n) (blocksApart h.pool) (chain := b.chain ++ blocks) (start := b.contentLength)
    (bytes := entryBytes r b.recordCount (entryStamp u b)) ?_ (fun x held => ?_) (fun b' cause cls stands => ?_) ?_ ?_
    fun m other => ?_
  · rw [entryStamp_length]
    exact appended_fits (h.built.slots.opened opened).1 (entrySize_bounds _ payload).2 placed
  · rw [opened]
    exact (List.mem_append.mp held).symm.imp_left (free x)
  · cases opened.symm.trans stands
  · rw [appendEntry_eq, postAppend_blockMem, ← mem]
    rfl
  · exact (appendEntry_reach u n b age r blocks).outside.trans outside
  · rw [appendEntry_eq, postAppend_withEntry_slots, if_neg other, slots]

theorem sealed_placeValid (h : Stocked s) (p : Fin 32) {r : TakenRecord} (payload : r.record.payload.length ≤ 120) :
    Sealed s (placeValid s p r).1 := by
  obtain ⟨_, new⟩ | ⟨n, b, age, _, _, past⟩ | ⟨n, b, age, found, _, fits⟩ := placeValid_cases s p r
  · rw [new]
    exact sealed_placeNew h p payload
  · rw [past]
    have closed : Stocked (closeSlot s n .byteLimit) := h.of_pool (closeSlot_pool s n _) (h.built.closeSlot n _)
    exact (sealed_closeSlot s n .byteLimit).trans (sealed_placeNew closed p payload)
  · obtain ⟨idle, opened, _⟩ := openSlotOf_eq_some found
    obtain ⟨room, answer⟩ | ⟨more, ⟨free, answer⟩ | ⟨_, answer⟩⟩ := fits
    · rw [answer]
      exact sealed_appendEntry h rfl rfl rfl opened payload nofun (.inl ⟨rfl, room⟩)
    · rw [answer]
      exact sealed_appendEntry h (granted_blockMem s 1) (granted_slots s 1) (granted_reach s 1).outside opened payload
        (fun x mem => List.mem_of_mem_take mem) (.inr ⟨List.length_take_of_le free, more⟩)
    · rw [answer]
      exact (sealed_of_same (refused_blockMem s) (refused_reach s).outside (refused_slots s)).trans
        (sealed_closeSlot _ n .poolEmpty)

/-- A placement attempt writes in free blocks and in the chain of an OPEN slot alone. -/
theorem sealed_place (h : Stocked s) (p : Fin 32) {r : TakenRecord} (payload : r.record.payload.length ≤ 120) :
    Sealed s (place s p r).1 := by
  have placed := sealed_placeValid h p payload
  cases valid : s.profiles[p].valid with
  | false =>
    rw [place_of_invalid valid]
    exact sealed_of_same rfl rfl rfl
  | true =>
    obtain appended | waits := placeValid_result s p r
    · rw [place_of_appended valid (Prod.ext rfl appended)]
      exact placed.trans (sealed_of_same rfl rfl rfl)
    · rw [place_of_wait valid (Prod.ext rfl waits)]
      exact placed

theorem Stocked.tryHeld (h : Stocked s) : Stocked (tryHeld s) := h.of_pool (tryHeld_pool s) h.built.tryHeld

theorem sealed_tryHeld (h : Stocked s) : Sealed s (tryHeld s) := by
  by_cases run : s.opState = .run
  · cases holds : s.hold with
    | none => rw [tryHeld_of_free holds]; exact .refl s
    | some held =>
      have placed := sealed_place h held.profile (h.built.held held holds)
      rw [tryHeld_of_place run holds (Prod.eta _).symm]
      split
      · exact placed
      · exact placed.trans (sealed_of_same rfl rfl rfl)
  · rw [tryHeld_of_not_run run]
    exact .refl s

theorem sealed_handOver (h : Stocked s) (p : Fin 32) {r : TakenRecord} (payload : r.record.payload.length ≤ 120) :
    Sealed s (handOver s p r) := by
  have placed := sealed_place h p payload
  rw [handOver_of_place (Prod.eta _).symm]
  split
  · exact placed.trans (sealed_of_same rfl rfl rfl)
  · exact placed

end Placement

end Sys2Proof.Machine
end

section
/-! Proofs: ClosedContentIsNeverWritten, command by command: removals and moves come before the one attempt they trigger, and that attempt writes to no closed content. -/

namespace Sys2Proof.Machine

open Safety

/-! ### Returns and removals (R72, R111) -/

section Returns

variable {s t u : State}

theorem returnChain_blockMem (s : State) (chain : List BlockNo) : (returnChain s chain).blockMem = s.blockMem := by
  unfold returnChain rearmPool
  split <;> rfl

theorem returnChain_slots (s : State) (chain : List BlockNo) : (returnChain s chain).slots = s.slots :=
  (returnChain_quiet s chain).slots

/-- A chain given back by a state that no longer holds it. -/
theorem sealed_giveBack (chain : List BlockNo) (h : Stocked (returnChain s chain)) : Sealed s (giveBack s chain) :=
  (sealed_of_same (returnChain_blockMem s chain) (returnChain_reach s chain).outside (returnChain_slots s chain)).trans
    (sealed_tryHeld h)

theorem stocked_of_release (h : Stocked s) (pool : t.pool = s.pool) (slots : t.slots = s.slots)
    (descriptors : t.descriptors ⊆ s.descriptors) (profiles : t.profiles = s.profiles) (templates : t.templates = s.templates)
    (hold : t.hold = s.hold) : Stocked t :=
  h.of_pool pool (h.built.congr slots descriptors profiles templates hold)

theorem returnChain_descriptors (s : State) (chain : List BlockNo) : (returnChain s chain).descriptors = s.descriptors :=
  (returnChain_quiet s chain).descriptors

/-- The state after the chain of the oldest retained bundle has been returned, before the trigger (R72, R111). -/
theorem stocked_unretain (h : Stocked s) {e : Retained} {rest : List Retained} (list : s.retention = e :: rest) :
    Stocked (returnChain { s with retention := rest } e.desc.chain) := by
  have quiet := returnChain_quiet { s with retention := rest } e.desc.chain
  refine stocked_of_release h ?_ quiet.slots ?_ quiet.profiles quiet.templates quiet.hold
  · rw [returnChain_pool]
    exact unretain_pool list
  · rw [quiet.descriptors]
    intro d mem
    unfold State.descriptors at mem ⊢
    rw [list]
    exact List.mem_append.mpr ((List.mem_append.mp mem).imp_right (List.mem_cons_of_mem _))

theorem stocked_fillHold (h : Stocked s) {e : Retained} {rest : List Retained} (list : s.retention = e :: rest)
    (empty : s.releasedHold = none) : Stocked { s with retention := rest, releasedHold := some e.desc.chain } := by
  refine stocked_of_release h ?_ rfl ?_ rfl rfl rfl
  · exact (fillHold_pool (s := { s with retention := rest }) empty _).trans (unretain_pool list)
  · intro d mem
    unfold State.descriptors at mem ⊢
    rw [list]
    exact List.mem_append.mpr ((List.mem_append.mp mem).imp_right (List.mem_cons_of_mem _))

/-- A chain that passes to the released-bundle hold stays outside the Slot Table (R111). -/
theorem outside_of_released {e : Retained} {rest : List Retained} (list : s.retention = e :: rest)
    (empty : s.releasedHold = none) :
    ∀ x ∈ State.outside { s with retention := rest, releasedHold := some e.desc.chain }, x ∈ s.outside := by
  intro x mem
  simp only [State.outside, list, empty, List.flatMap_cons, List.mem_append, Option.getD_some] at mem ⊢
  tauto

theorem outside_of_unretained {e : Retained} {rest : List Retained} (list : s.retention = e :: rest) :
    ∀ x ∈ State.outside { s with retention := rest }, x ∈ s.outside := by
  intro x mem
  simp only [State.outside, list, List.flatMap_cons, List.mem_append] at mem ⊢
  tauto

theorem sealed_removeOldest (k : Nat) (h : Stocked s) : Sealed s (removeOldest k s) := by
  induction k generalizing s with
  | zero => exact .refl s
  | succ k ih =>
    unfold removeOldest
    split
    · exact .refl s
    · rename_i e rest list
      dsimp only
      split
      · rename_i sent
        have empty : s.releasedHold = none := releasedHold_of_beingSent sent
        refine Sealed.trans ?_ (ih (stocked_fillHold h list empty))
        exact sealed_of_unwritten rfl (outside_of_released list empty) fun _ _ _ _ stands => stands
      · have returned := stocked_unretain h list
        have removed : Sealed s { s with retention := rest } :=
          sealed_of_unwritten rfl (outside_of_unretained list) fun _ _ _ _ stands => stands
        exact (removed.trans (sealed_giveBack e.desc.chain returned)).trans (ih returned.tryHeld)

theorem stocked_emptyHold (h : Stocked s) {chain : List BlockNo} (held : s.releasedHold = some chain) :
    Stocked (returnChain { s with releasedHold := none } chain) := by
  have quiet := returnChain_quiet { s with releasedHold := none } chain
  refine stocked_of_release h ?_ quiet.slots (fun d mem => ?_) quiet.profiles quiet.templates quiet.hold
  · rw [returnChain_pool]
    exact emptyHold_pool held
  · rw [quiet.descriptors] at mem
    exact mem

theorem sealed_returnHold (h : Stocked s) : Sealed s (returnHold s) := by
  unfold returnHold
  split
  · exact .refl s
  · rename_i chain held
    refine Sealed.trans ?_ (sealed_giveBack chain (stocked_emptyHold h held))
    refine sealed_of_unwritten rfl (fun x mem => ?_) fun _ _ _ _ stands => stands
    simp only [State.outside, List.mem_append, Option.getD_none, List.not_mem_nil, or_false] at mem ⊢
    exact .inl mem

end Returns

/-! ### Closed content between the ends of a step -/

/-- What stands outside the Slot Table in `t`, and what stood in the CLOSED slots of `s`, holds the bytes it held. -/
structure KeepsClosed (s t : State) : Prop where
  outside : ∀ x ∈ t.outside, SameBytes s.blockMem t.blockMem x
  closed : ∀ (n : SlotNo) b cause cls, s.slots[n] = .closed b cause cls →
    ∀ x ∈ b.chain, SameBytes s.blockMem t.blockMem x

section Steps

variable {c : Instr} {s t u : State}

theorem Sealed.keepsClosed (h : Sealed s t) : KeepsClosed s t :=
  ⟨fun x mem => (h.outside x mem).2, fun n b cause cls stands => (h.closed n b cause cls stands).2⟩

theorem keepsClosed_of_unwritten (mem : t.blockMem = s.blockMem) : KeepsClosed s t :=
  ⟨fun x _ => sameBytes_of_eq mem x, fun _ _ _ _ _ x _ => sameBytes_of_eq mem x⟩

/-- Before it nothing is written, after it nothing else joins what stands outside: a move and the attempt it triggers. -/
theorem keepsClosed_of_moved (mem : u.blockMem = s.blockMem)
    (moved : ∀ (n : SlotNo) b cause cls, s.slots[n] = .closed b cause cls →
      u.slots[n] = .closed b cause cls ∨ ∀ x ∈ b.chain, x ∈ u.outside)
    (outside : t.outside = u.outside) (h : Sealed u t) : KeepsClosed s t where
  outside x held := mem ▸ (h.outside x held).2
  closed n b cause cls stands x held := by
    rw [← mem]
    obtain still | left := moved n b cause cls stands
    · exact (h.closed n b cause cls still).2 x held
    · exact (h.outside x (outside ▸ left x held)).2

theorem DrainReach.outside (h : DrainReach s t) : t.outside = s.outside :=
  outside_congr (congrArg State.expressQueue h :) (congrArg State.bulkQueue h :) (congrArg State.retention h :)
    (congrArg State.releasedHold h :)

theorem slotBecameIdle_outside (s : State) : (slotBecameIdle s).outside = s.outside := by
  unfold slotBecameIdle
  split
  · exact (tryHeld_reach s).outside
  · split
    · exact (endDrain_drainReach s .ok []).outside
    · rfl
  · rfl

theorem endDrain_blockMem (s : State) (status : Status) (result : List Byte) :
    (endDrain s status result).blockMem = s.blockMem := (congrArg State.blockMem (endDrain_drainReach s status result) :)

theorem sealed_slotBecameIdle (h : Stocked s) : Sealed s (slotBecameIdle s) := by
  unfold slotBecameIdle
  split
  · exact sealed_tryHeld h
  · split
    · exact sealed_of_same (endDrain_blockMem s .ok []) (endDrain_drainReach s .ok []).outside
        ((endDrain_quiet s .ok []).slots :)
    · exact .refl s
  · exact .refl s

/-- The state a move leaves before the trigger: the slot vacated, its bundle at the tail of the queue (R63). -/
def moved (s : State) (n : SlotNo) (cls : BundleClass) (d : Descriptor) : State :=
  (vacate s n cls).setQueue cls (s.queue cls ++ [d])

theorem moved_slots (s : State) (n : SlotNo) (cls : BundleClass) (d : Descriptor) (m : SlotNo) :
    (moved s n cls d).slots[m] = if m = n then .idle else s.slots[m] := by
  rw [← vacate_slots s n cls m, moved, State.setQueue_slots]

theorem moved_outside (s : State) (n : SlotNo) (cls : BundleClass) (d : Descriptor) :
    ∀ x ∈ d.chain, x ∈ (moved s n cls d).outside := by
  intro x mem
  cases cls <;> simp [moved, State.outside, State.setQueue, mem]

theorem stocked_moved (h : Stocked s) {n : SlotNo} {b : Bundle} {cause : CloseCause} {qc : BundleClass}
    (closed : s.slots[n] = .closed b cause qc) (cls : BundleClass) :
    Stocked (moved s n cls (descriptorOf b cause qc)) := by
  have sound : BundleSound b := by
    have here := h.built.slots n
    rw [closed] at here
    exact here
  have same : s.queue cls = (vacate s n cls).queue cls := by cases cls <;> rfl
  unfold moved
  rw [same]
  exact h.of_pool ((enqueue_pool _ cls _).trans (vacate_pool closed cls))
    ((h.built.vacate n cls).enqueue cls (descriptorOf_sound sound cause qc))

theorem moveHead_keepsClosed (h : Stocked s) (cls : BundleClass) : KeepsClosed s (moveHead s cls) := by
  obtain same | ⟨n, rest, b, cause, qc, _, closed, moves⟩ := moveHead_cases s cls
  · rw [same]
    exact keepsClosed_of_unwritten rfl
  · rw [moves]
    refine keepsClosed_of_moved (u := moved s n cls (descriptorOf b cause qc)) ?_ (fun m b' cause' cls' stands => ?_)
      (slotBecameIdle_outside _) (sealed_slotBecameIdle (stocked_moved h closed cls))
    · cases cls <;> rfl
    · by_cases here : m = n
      · refine .inr fun x mem => moved_outside s n cls (descriptorOf b cause qc) x ?_
        cases closed.symm.trans (here ▸ stands)
        exact mem
      · rw [moved_slots, if_neg here]
        exact .inl stands

theorem stocked_startedBundle (h : Stocked s) {cls : BundleClass} {d : Descriptor} {rest : List Descriptor}
    (queue : s.queue cls = d :: rest) : Stocked (startedBundle s cls d rest) := by
  refine stocked_of_release h ?_ ?_ (fun x mem => ?_) ?_ ?_ ?_
  · have retained := retain_pool (s.setQueue cls rest) ⟨d, s.nextSeq, 0, false⟩
    rw [State.setQueue_retention] at retained
    exact retained.trans (dequeue_pool queue)
  · exact State.setQueue_slots s cls rest
  · cases cls <;> simp only [State.queue] at queue <;>
      simp only [startedBundle, State.descriptors, State.setQueue, queue, List.map_append, List.map_cons, List.map_nil,
        List.mem_append, List.mem_cons, List.not_mem_nil] at mem ⊢ <;> tauto
  · exact State.setQueue_profiles s cls rest
  · exact State.setQueue_templates s cls rest
  · exact State.setQueue_hold s cls rest

theorem startFirst_keepsClosed (h : Stocked s) : KeepsClosed s (startFirst s) := by
  unfold startFirst
  split
  · split
    · exact keepsClosed_of_unwritten rfl
    · rename_i cls _
      cases queue : s.queue cls with
      | nil => rw [startNewBundle_of_empty queue]; exact keepsClosed_of_unwritten rfl
      | cons d rest =>
        rw [startNewBundle_of_queue queue]
        have kept := moveHead_keepsClosed (stocked_startedBundle h queue) cls
        have mem : (startedBundle s cls d rest).blockMem = s.blockMem := State.setQueue_blockMem s cls rest
        have slots : (startedBundle s cls d rest).slots = s.slots := State.setQueue_slots s cls rest
        exact ⟨mem ▸ kept.outside, fun n b cause cls stands => mem ▸ kept.closed n b cause cls (slots ▸ stands)⟩
  · exact keepsClosed_of_unwritten rfl

theorem completeBundle_keepsClosed (h : Stocked s) : KeepsClosed s (completeBundle s) := by
  unfold completeBundle
  split
  · split
    · have ended : Sealed s { s with tx := none } := sealed_of_same rfl rfl rfl
      have stocked : Stocked { s with tx := none } := ⟨h.pool, h.built.of_quiet rfl⟩
      exact (ended.trans (sealed_returnHold stocked)).keepsClosed
    · exact keepsClosed_of_unwritten rfl
  · exact keepsClosed_of_unwritten rfl

theorem sealed_abortTransmission (h : Stocked s) : Sealed s (abortTransmission s) := by
  unfold abortTransmission
  split
  case h_5 =>
    have ended : Sealed s { s with tx := none } := sealed_of_same rfl rfl rfl
    have stocked : Stocked { s with tx := none } := ⟨h.pool, h.built.of_quiet rfl⟩
    exact ended.trans (sealed_returnHold stocked)
  all_goals exact sealed_of_same rfl rfl rfl

theorem linkDown_keepsClosed (h : Stocked s) : KeepsClosed s (linkDown s) := by
  refine Sealed.keepsClosed ?_
  exact (sealed_abortTransmission h).trans (sealed_of_same rfl rfl rfl)

theorem takeAck_keepsClosed (h : Stocked s) (n : Word16) : KeepsClosed s (takeAck s n) := by
  unfold takeAck
  split
  · exact keepsClosed_of_unwritten rfl
  · refine Sealed.keepsClosed ?_
    exact (sealed_removeOldest _ h).trans (sealed_of_same rfl rfl rfl)

theorem takeNak_keepsClosed (h : Stocked s) (n : Word16) : KeepsClosed s (takeNak s n) := by
  unfold takeNak
  split
  · exact keepsClosed_of_unwritten rfl
  · refine Sealed.keepsClosed ?_
    exact (sealed_removeOldest _ h).trans (sealed_of_same rfl rfl rfl)

theorem sealed_classified (h : Stocked s) {r : TakenRecord} (payload : r.record.payload.length ≤ 120) :
    Sealed s (classified s r) := by
  unfold classified
  split
  · unfold handleHit
    dsimp only
    split
    · exact sealed_of_same rfl rfl rfl
    · rename_i p _
      have hit (hits : Vector Counter 128) : Sealed s { s with matchHits := hits } := sealed_of_same rfl rfl rfl
      have stocked (hits : Vector Counter 128) : Stocked { s with matchHits := hits } := ⟨h.pool, h.built.of_quiet rfl⟩
      exact (hit _).trans (sealed_handOver (stocked _) p payload)
  · have quiet := reportMiss_quiet s r
    have touched := reportMiss_touches s r
    have reported : Sealed s (reportMiss s r) := by
      refine sealed_of_same ?_ ?_ quiet.slots
      · unfold reportMiss
        split
        · exact (congrArg State.blockMem (raise_reach { s with routeMissArmed := false } _) :)
        · rfl
      · exact outside_congr (congrArg State.expressQueue touched :) (congrArg State.bulkQueue touched :)
          (congrArg State.retention touched :) (congrArg State.releasedHold touched :)
    unfold handleMiss
    dsimp only
    split
    · exact reported.trans (sealed_of_same rfl rfl rfl)
    · exact reported.trans (sealed_handOver (h.of_pool (reportMiss_pool s r) (h.built.of_quiet quiet)) _ payload)

theorem classifierTake_keepsClosed (h : Stocked s) (ports : PortsSound s) : KeepsClosed s (classifierTake s) := by
  cases next : s.nextTake with
  | none =>
    unfold classifierTake
    rw [next]
    exact keepsClosed_of_unwritten rfl
  | some taken =>
    obtain ⟨p, r, rest⟩ := taken
    obtain ⟨_, _, mem⟩ := nextTake_eq_some next
    rw [classifierTake_of_next next]
    have left : Sealed s (afterTake s p rest) := sealed_of_same rfl rfl rfl
    have stocked : Stocked (afterTake s p rest) := ⟨h.pool, h.built.of_quiet (afterTake_quiet s p rest)⟩
    have fits : r.payload.length ≤ 120 := (ports.ports p).fifo_payloads r mem
    exact (left.trans (sealed_classified (r := ⟨p, r⟩) stocked fits)).keepsClosed

theorem sealed_tryHeldFor (h : Stocked s) (p : Fin 32) : Sealed s (tryHeldFor s p) := by
  unfold tryHeldFor
  split
  · split
    · exact sealed_tryHeld h
    · exact .refl s
  · exact .refl s

theorem sealed_closeProfile (s : State) (p : Fin 32) (cause : CloseCause) : Sealed s (closeProfile s p cause) := by
  unfold closeProfile
  split
  · exact sealed_closeSlot s _ cause
  · exact .refl s

theorem stocked_closeProfile (h : Stocked s) (p : Fin 32) (cause : CloseCause) : Stocked (closeProfile s p cause) := by
  unfold closeProfile
  split
  · exact h.of_pool (closeSlot_pool s _ cause) (h.built.closeSlot _ cause)
  · exact h

/-- A profile in range written whole (R33). -/
theorem stocked_writeProfile (h : Stocked s) {p : Fin 32} {profile : Profile} (range : ProfileInRange profile) :
    Stocked { s with profiles := s.profiles.set p.val profile p.isLt } :=
  ⟨h.pool, h.built.slots, h.built.descriptors,
    ⟨forall_getElem_set h.built.tables.profiles p range, h.built.tables.templates⟩, h.built.held⟩

/-- A taken WRITE_PROFILE: the profile written, its OPEN slot closed, a held record of it tried (R33, R59, R62). -/
theorem sealed_writtenProfile (h : Stocked s) {p : Fin 32} {profile : Profile} (range : ProfileInRange profile) :
    Sealed s (tryHeldFor (closeProfile { s with profiles := s.profiles.set p.val profile p.isLt } p .profileChanged) p) := by
  have written : Sealed s { s with profiles := s.profiles.set p.val profile p.isLt } := sealed_of_same rfl rfl rfl
  have closed := stocked_closeProfile (stocked_writeProfile (p := p) h range) p .profileChanged
  exact (written.trans (sealed_closeProfile _ p .profileChanged)).trans (sealed_tryHeldFor closed p)

theorem stocked_writtenProfile (h : Stocked s) {p : Fin 32} {profile : Profile} (range : ProfileInRange profile) :
    Stocked (tryHeldFor (closeProfile { s with profiles := s.profiles.set p.val profile p.isLt } p .profileChanged) p) := by
  have closed := stocked_closeProfile (stocked_writeProfile (p := p) h range) p .profileChanged
  unfold tryHeldFor
  split
  · split
    · exact closed.tryHeld
    · exact closed
  · exact closed

/-- Closed content is kept by every command that resets nothing. -/
theorem exec_keepsClosed (h : Stocked s) (ports : PortsSound s) (answer : exec c s = .next t)
    (noReset : performsReset c s = false) : KeepsClosed s t := by
  have touched := exec_touches answer noReset
  have same : KeepsClosed s s := keepsClosed_of_unwritten rfl
  have counts (trunk : TrunkCounters) : KeepsClosed s { s with trunk := trunk } := keepsClosed_of_unwritten rfl
  cases c with
  | classifierTake => exact live_keeps answer same (classifierTake_keepsClosed h ports)
  | slotMove cls => exact live_keeps (f := (moveHead · cls)) answer same (moveHead_keepsClosed h cls)
  | firstTransmissionStart => exact live_keeps answer same (startFirst_keepsClosed h)
  | bundleTransmissionComplete => exact live_keeps answer same (completeBundle_keepsClosed h)
  | carrierLoss =>
    have answer : execCarrierLoss s = .next t := answer
    unfold execCarrierLoss at answer
    split at answer
    · cases answer
      exact same
    · rename_i carrier
      have carrier : s.carrier = true := by simpa using carrier
      split at answer
      · cases answer
        exact keepsClosed_of_unwritten rfl
      · rename_i working
        cases answer
        rw [loseCarrier_of_no_reset (by simpa [performsReset, carrier, working] using noReset)]
        exact linkDown_keepsClosed h
  | bundleAck n =>
    exact live_keeps (f := (received · (takeAck · n))) answer same
      (received_keeps same counts (takeAck_keepsClosed h n))
  | bundleNak n =>
    exact live_keeps (f := (received · (takeNak · n))) answer same
      (received_keeps same counts (takeNak_keepsClosed h n))
  | writeProfile id profile record =>
    refine Sealed.keepsClosed (And.left (command_keeps (P := fun u => Sealed s u ∧ Stocked u) answer ?_ ?_ ⟨.refl s, h⟩))
    · intro u v hu
      exact ⟨hu.1.trans (sealed_of_same rfl rfl rfl), hu.2.pool, hu.2.built.of_quiet rfl⟩
    · intro u hu
      dsimp only
      split
      · rename_i inRange
        have range := profileOf_inRange inRange.2
        exact ⟨hu.1.trans (sealed_writtenProfile hu.2 range), stocked_writtenProfile hu.2 range⟩
      · exact hu
  | resume id =>
    refine Sealed.keepsClosed (And.left (command_keeps (P := fun u => Sealed s u ∧ Stocked u) answer ?_ ?_ ⟨.refl s, h⟩))
    · intro u v hu
      exact ⟨hu.1.trans (sealed_of_same rfl rfl rfl), hu.2.pool, hu.2.built.of_quiet rfl⟩
    · intro u hu
      split
      · have running : Stocked { u with opState := .run } :=
          ⟨hu.2.pool, hu.2.built.congr rfl (fun _ mem => mem) rfl rfl rfl⟩
        have resumed : Sealed s { u with opState := .run } := hu.1.trans (sealed_of_same rfl rfl rfl)
        exact ⟨resumed.trans (sealed_tryHeld running), running.tryHeld⟩
      · exact hu
      · exact hu
  | powerOn => cases noReset
  | resetNAsserted => cases noReset
  | _ => exact keepsClosed_of_unwritten (congrArg State.blockMem touched :)

/-! ### A retained bundle keeps its descriptor -/

/-- Each bundle retained in `t` was retained in `s` under its sequence with its descriptor, or has the sequence that was next. -/
def RetainedFrom (s t : State) : Prop :=
  ∀ e' ∈ t.retention, e'.seq = s.nextSeq ∨ ∃ e ∈ s.retention, e.seq = e'.seq ∧ e.desc = e'.desc

theorem retainedFrom_of_subset (fewer : ∀ e ∈ t.retention, e ∈ s.retention) : RetainedFrom s t :=
  fun e mem => .inr ⟨e, fewer e mem, rfl, rfl⟩

theorem retainedFrom_of_same (same : t.retention = s.retention) : RetainedFrom s t :=
  retainedFrom_of_subset fun _ mem => same ▸ mem

theorem retainedFrom_of_map (f : Retained → Retained) (keeps : ∀ e, (f e).seq = e.seq ∧ (f e).desc = e.desc)
    (list : t.retention = s.retention.map f) : RetainedFrom s t := by
  intro e' mem
  rw [list] at mem
  obtain ⟨e, old, rfl⟩ := List.mem_map.mp mem
  exact .inr ⟨e, old, (keeps e).1.symm, (keeps e).2.symm⟩

theorem retainedFrom_of_modRetained {p : Word16} (f : Retained → Retained)
    (keeps : ∀ e, (f e).seq = e.seq ∧ (f e).desc = e.desc) (list : t.retention = modRetained p f s.retention) :
    RetainedFrom s t := by
  refine retainedFrom_of_map (fun e => if e.seq = p then f e else e) (fun e => ?_) list
  split
  · exact keeps e
  · exact ⟨rfl, rfl⟩

theorem retainedFrom_drop (k : Nat) (list : t.retention = s.retention.drop k) : RetainedFrom s t :=
  retainedFrom_of_subset fun _ mem => List.mem_of_mem_drop (list ▸ mem)

theorem startFirst_retainedFrom (s : State) : RetainedFrom s (startFirst s) := by
  unfold startFirst
  split
  · split
    · exact retainedFrom_of_same rfl
    · rename_i cls _
      cases queue : s.queue cls with
      | nil => rw [startNewBundle_of_empty queue]; exact retainedFrom_of_same rfl
      | cons d rest =>
        rw [startNewBundle_of_queue queue]
        have reach := moveHead_reach (startedBundle s cls d rest) cls
        have list : (moveHead (startedBundle s cls d rest) cls).retention = s.retention ++ [⟨d, s.nextSeq, 0, false⟩] :=
          (congrArg State.retention reach :)
        intro e mem
        rw [list, List.mem_append, List.mem_singleton] at mem
        obtain old | rfl := mem
        · exact .inr ⟨e, old, rfl, rfl⟩
        · exact .inl rfl
  · exact retainedFrom_of_same rfl

theorem linkDown_retention (s : State) : (linkDown s).retention = s.retention := by
  change (abortTransmission s).retention = s.retention
  unfold abortTransmission
  split
  case h_5 => exact returnHold_retention _
  all_goals rfl

theorem exec_retainedFrom (answer : exec c s = .next t) (noReset : performsReset c s = false) : RetainedFrom s t := by
  have touched := exec_touches answer noReset
  have same : RetainedFrom s s := retainedFrom_of_same rfl
  have counts (trunk : TrunkCounters) : RetainedFrom s { s with trunk := trunk } := retainedFrom_of_same rfl
  cases c with
  | firstTransmissionStart => exact live_keeps answer same (startFirst_retainedFrom s)
  | retransmissionStart =>
    refine live_keeps answer same ?_
    unfold startRetransmission
    split
    · exact same
    · split
      · exact retainedFrom_of_modRetained _ (fun e => by exact ⟨rfl, rfl⟩) rfl
      · exact same
  | bundleTransmissionComplete =>
    refine live_keeps answer same ?_
    unfold completeBundle
    split
    · split
      · exact retainedFrom_of_same (returnHold_retention _)
      · exact retainedFrom_of_modRetained _ (fun e => by exact ⟨rfl, rfl⟩) rfl
    · exact same
  | carrierLoss =>
    have answer : execCarrierLoss s = .next t := answer
    unfold execCarrierLoss at answer
    split at answer
    · cases answer
      exact same
    · rename_i carrier
      have carrier : s.carrier = true := by simpa using carrier
      split at answer
      · cases answer
        exact retainedFrom_of_same rfl
      · rename_i working
        cases answer
        rw [loseCarrier_of_no_reset (by simpa [performsReset, carrier, working] using noReset)]
        exact retainedFrom_of_same (linkDown_retention s)
  | sync =>
    refine live_keeps answer same ?_
    cases carrier : s.carrier with
    | false => rw [takeSync_of_no_carrier carrier]; exact same
    | true =>
      by_cases room : s.controlQueue.length ≤ 7
      · rw [takeSync_of_room carrier room]
        refine retainedFrom_of_map (fun e => { e with retry := 0 }) (fun e => by exact ⟨rfl, rfl⟩) ?_
        split
        · exact (congrArg State.retention (raise_reach (synced s) (.linkResynced s.retention.length)) :)
        · rfl
      · rw [takeSync_of_full carrier (Nat.lt_of_not_le room)]
        exact retainedFrom_of_same rfl
  | bundleAck n =>
    refine live_keeps (f := (received · (takeAck · n))) answer same (received_keeps same counts ?_)
    unfold takeAck
    split
    · exact retainedFrom_of_same rfl
    · exact retainedFrom_drop _ (removeOldest_retention _ s)
  | bundleNak n =>
    refine live_keeps (f := (received · (takeNak · n))) answer same (received_keeps same counts ?_)
    unfold takeNak
    split
    · exact retainedFrom_of_same rfl
    · exact retainedFrom_drop _ (removeOldest_retention _ s)
  | powerOn => cases noReset
  | resetNAsserted => cases noReset
  | _ => exact retainedFrom_of_same (congrArg State.retention touched :)

theorem ResetOf.blocks (reset : ResetOf s t) : t.blockMem = s.blockMem ∧ t.retention = [] := by
  cases reset with
  | ordered _ _ level => cases level <;> exact ⟨rfl, rfl⟩
  | held => exact ⟨rfl, rfl⟩
  | released => exact ⟨rfl, rfl⟩

/-- What a step leaves of closed content and of the retained bundles. -/
theorem step_keepsClosed (pool : PoolConserved s) (bundles : BundlesSound s) (tables : TablesInRange s)
    (ports : PortsSound s) (stepped : step s = .next t) : KeepsClosed s t ∧ RetainedFrom s t := by
  unfold step at stepped
  split at stepped
  · cases stepped
    obtain ⟨now, straps, changes, queue, ticks⟩ := tick_clocked s
    rw [ticks]
    exact ⟨keepsClosed_of_unwritten rfl, retainedFrom_of_same rfl⟩
  · rename_i c rest _
    cases resets : performsReset c { s with pending := rest } with
    | true =>
      obtain ⟨mem, list⟩ := (exec_resets stepped resets).blocks
      exact ⟨keepsClosed_of_unwritten mem, fun e held => nomatch list ▸ held⟩
    | false =>
      have stocked : Stocked { s with pending := rest } :=
        ⟨pool, (buildSound_of_laws bundles tables ports).of_quiet rfl⟩
      have kept := exec_keepsClosed stocked ⟨ports.ports, ports.held⟩ stepped resets
      have retained := exec_retainedFrom stepped resets
      exact ⟨⟨kept.outside, kept.closed⟩, retained⟩

end Steps

/-! ### The chains the law speaks of -/

section Chains

variable {s t : State}

theorem outside_of_retained {e : Retained} (mem : e ∈ s.retention) : ∀ x ∈ e.desc.chain, x ∈ s.outside := by
  intro x held
  have : x ∈ s.retention.flatMap fun e => e.desc.chain := List.mem_flatMap_of_mem mem held
  simp only [State.outside, List.mem_append]
  exact .inl (.inr this)

theorem outside_of_hold {chain : List BlockNo} (held : s.releasedHold = some chain) : ∀ x ∈ chain, x ∈ s.outside := by
  intro x mem
  simp only [State.outside, held, List.mem_append, Option.getD_some]
  exact .inr mem

theorem outside_of_queue {cls : BundleClass} {d : Descriptor} (mem : d ∈ s.queue cls) : ∀ x ∈ d.chain, x ∈ s.outside := by
  intro x held
  have : x ∈ (s.queue cls).flatMap Descriptor.chain := List.mem_flatMap_of_mem mem held
  simp only [State.outside, List.mem_append]
  cases cls
  · exact .inl (.inl (.inl this))
  · exact .inl (.inl (.inr this))

theorem chainFits_le {content lastBytes : Nat} {chain : List BlockNo} (h : ChainFits content chain lastBytes) :
    content ≤ 128 * chain.length := by
  obtain ⟨full, _, last_le⟩ := h
  omega

/-- The sequence that a new bundle takes is no retained bundle's (R107). -/
theorem retained_ne_nextSeq (sound : RetentionSound s) {e : Retained} (mem : e ∈ s.retention) : e.seq ≠ s.nextSeq := by
  obtain ⟨i, at_i⟩ := List.getElem?_of_mem mem
  obtain ⟨lt, _⟩ := List.getElem?_eq_some_iff.mp at_i
  have next := sound.consecutive i e at_i
  have places := sound.places
  simp only [Config.retentionPlaces] at places
  intro same
  rw [same] at next
  have zero := congrArg BitVec.toNat (add_eq_left.mp next)
  rw [BitVec.toNat_ofNat, Nat.mod_eq_of_lt (by omega)] at zero
  simp at zero
  omega

end Chains

/-- Settles O17: what stands outside the Slot Table after the step, and what stood in a CLOSED slot before it, is written nowhere in it. -/
theorem closedContentIsNeverWritten : Obligations.ClosedContentIsNeverWritten := by
  intro s t pool bundles tables ports retention stepped content kept
  obtain ⟨closed, retained⟩ := step_keepsClosed pool bundles tables ports stepped
  have keeps (d : Descriptor) (sound : DescriptorSound d) (outside : ∀ x ∈ d.chain, x ∈ t.outside) : kept d :=
    readContent_of_sameBytes (chainFits_le sound.chain) fun x mem => closed.outside x (outside x mem)
  refine ⟨fun e mem => ⟨fun e' mem' same => ?_, fun held => ?_⟩, fun chain _ held n fits => ?_, fun cls d mem stays => ?_,
    fun n b cause qc stands _ => ?_⟩
  · obtain next | ⟨e₀, old, seq, desc⟩ := retained e' mem'
    · exact absurd (same.symm.trans next) (retained_ne_nextSeq retention mem)
    · obtain rfl := eq_of_seq (seqs_nodup retention) old mem (seq.trans same)
      exact ⟨desc.symm, keeps e₀.desc (bundles.retained e₀ mem) (desc ▸ outside_of_retained mem')⟩
  · exact keeps e.desc (bundles.retained e mem) (outside_of_hold held)
  · exact readContent_of_sameBytes fits fun x mem => closed.outside x (outside_of_hold held x mem)
  · have sound : DescriptorSound d := by
      cases cls
      · exact bundles.express d mem
      · exact bundles.bulk d mem
    obtain queued | ⟨e, mem', rfl⟩ := stays
    · exact keeps d sound (outside_of_queue queued)
    · exact keeps e.desc sound (outside_of_retained mem')
  · have sound : BundleSound b := by
      have here := bundles.slots n
      rw [stands] at here
      exact here
    exact readContent_of_sameBytes (chainFits_le sound.chain) (closed.closed n b cause qc stands)

end Sys2Proof.Machine
end

section
/-! Proofs: the machine right after reset, the Block Pool's grants and returns, RESET_PART and unknown command codes. -/

namespace Sys2Proof.Machine

open Safety

/-! ### The machine right after reset -/

theorem reset_ports (p : PortNo) : State.reset.ports[p] = Port.reset := Vector.getElem_replicate p.isLt

theorem reset_intakeArmed (p : PortNo) : State.reset.intakeArmed[p] = true := Vector.getElem_replicate p.isLt

theorem reset_active (i : Fin 128) : State.reset.active[i] = MatchEntry.reset := Vector.getElem_replicate i.isLt

theorem reset_shadow (i : Fin 128) : State.reset.shadow[i] = MatchEntry.reset := Vector.getElem_replicate i.isLt

theorem reset_matchHits (i : Fin 128) : State.reset.matchHits[i] = 0 := Vector.getElem_replicate i.isLt

theorem reset_profiles (p : Fin 32) : State.reset.profiles[p] = Profile.reset := Vector.getElem_replicate p.isLt

theorem reset_templates (i : Fin 8) : State.reset.templates[i] = [] := Vector.getElem_replicate i.isLt

theorem reset_slots (n : SlotNo) : State.reset.slots[n] = .idle := Vector.getElem_replicate n.isLt

theorem reset_freeList : State.reset.freeList.map Fin.val = List.range 512 := by
  have free : State.reset.freeList = allBlocks := by simp only [State.reset]
  rw [free, allBlocks_eq_finRange, List.map_coe_finRange_eq_range]

/-- Settles O4: each table is one reset value throughout, and every other field stands in State.reset. -/
theorem resetStateHoldsSpecValues : Obligations.ResetStateHoldsSpecValues := by
  have ports (p : PortNo) :
      State.reset.ports[p].enabled = false ∧ State.reset.ports[p].bitRate = .r115200 ∧ State.reset.ports[p].maxLen = 120
      ∧ State.reset.ports[p].rx = .off ∧ State.reset.ports[p].byteGapRunning = false
      ∧ State.reset.ports[p].headerCount = 0 ∧ State.reset.ports[p].payloadCount = 0
      ∧ State.reset.ports[p].remaining = 0 ∧ State.reset.ports[p].checkHigh = none
      ∧ State.reset.ports[p].fifo = [] ∧ State.reset.ports[p].tail = none ∧ State.reset.ports[p].txQueue = []
      ∧ State.reset.ports[p].sending = none ∧ State.reset.ports[p].counters.items = List.replicate 10 0
      ∧ State.reset.intakeArmed[p] = true := by
    rw [reset_ports, reset_intakeArmed]
    exact ⟨rfl, rfl, rfl, rfl, rfl, rfl, rfl, rfl, rfl, rfl, rfl, rfl, rfl, rfl, rfl⟩
  have tables (i : Fin 128) :
      State.reset.active[i] = ⟨false, none, 1, 254, none, .drop⟩ ∧ State.reset.shadow[i] = State.reset.active[i]
        ∧ State.reset.matchHits[i] = 0 := by
    rw [reset_active, reset_shadow, reset_matchHits]
    exact ⟨rfl, rfl, rfl⟩
  exact ⟨rfl, rfl, rfl, rfl, rfl, rfl, rfl, ports, rfl, rfl, tables, reset_profiles, reset_templates, reset_slots, rfl, rfl,
    rfl, rfl, reset_freeList, rfl, rfl, rfl, rfl, rfl, rfl, rfl, rfl, rfl, rfl, rfl, rfl, rfl, rfl, rfl, rfl, rfl, rfl,
    rfl, rfl, rfl, rfl, rfl, rfl, rfl, rfl, rfl, rfl, rfl, rfl, rfl, rfl, rfl, rfl, rfl⟩

/-- The reset machine is what a pin reset of it leaves. -/
theorem reset_resetOf : ResetOf State.reset State.reset := by
  have released : resetValues { State.reset with straps := 0, supplyGood := true, resetNLow := false } = State.reset := by
    simp [resetValues, State.reset]
  have reached : ResetOf State.reset _ := .released 0
  rwa [released] at reached

theorem reset_bundlesSound : BundlesSound State.reset where
  slots n := by
    rw [reset_slots]
    trivial
  express := nofun
  bulk := nofun
  retained := nofun

theorem reset_portsSound : PortsSound State.reset where
  ports p := by
    rw [reset_ports]
    exact reset_portSound
  held := nofun

/-- Settles O7: the pool is full, the tables are in range, and everything else is empty or at rest. -/
theorem resetStateIsSound : Obligations.ResetStateIsSound := by
  have desk := reset_resetOf.idleDesk
  exact ⟨rfl, (poolConserved_iff_pool _).mpr reset_pool,
    slotTableSound_of_empty reset_slots rfl (fun cls => by cases cls <;> rfl) rfl rfl, reset_portsSound,
    reset_tablesInRange, reset_bundlesSound, reset_resetOf.emissionSound, reset_resetOf.retentionSound.1,
    reset_resetOf.retentionSound.2, reset_resetOf.linkSound, reset_resetOf.cacheSound,
    pendingResetSound_of_idle desk, eventsSound_of_empty rfl⟩

/-! ### Grants and returns -/

theorem checkPoolLow_eq (s : State) :
    checkPoolLow s = if s.poolLowArmed = true ∧ s.freeList.length ≤ s.config.poolLowMark.toNat then
      raise { s with poolLowArmed := false } (.poolLow s.freeList.length) else s := by
  simp [checkPoolLow]

/-- Settles O34: a request and a return, each followed by its check. -/
theorem blocksAreGrantedAndReturned : Obligations.BlocksAreGrantedAndReturned := by
  intro s k chain
  refine ⟨fun enough => ?_, fun short => ?_, ?_⟩
  · rw [grant_of_le enough, granted, checkPoolLow_eq]
    simp only [List.length_drop]
  · rw [grant_of_lt short, refused, checkPoolExhausted]
  · simp only [returnChain, rearmPool, List.length_append]

/-! ### RESET_PART and unknown codes -/

section Requests

variable {s t : State} {id : Word16} {code : Byte} {run : State → Execution}

/-- An executed request whose reply a pending reset waits for (R156). -/
theorem command_awaited {status : Status} {result : List Byte} (h : Executes s id)
    (ran : run (accepted s) = ⟨t, some (status, result), true⟩) :
    command s id code run = .next
      { t with
        replyCache := t.replyCache ++ [⟨id, code, some ⟨id, code, status, result⟩⟩]
        controlQueue := t.controlQueue ++ [⟨.mgmtReply ⟨id, code, status, result⟩, true⟩] } := by
  rw [command_of_receives h.receives, takeRequest_of_fresh (controlRoom_of_le h.room) (cache_fresh h.fresh), ran]
  rfl

end Requests

theorem levelOf_eq_none {level : Byte} (traffic : level ≠ 1) (full : level ≠ 2) : levelOf level = none := by
  rw [levelOf, if_neg traffic, if_neg full]

/-- Settles O59: the level and the flag decide what RESET_PART answers, and a code that is none of the part's is answered as such. -/
theorem resetPartLeavesAResetPending : Obligations.ResetPartLeavesAResetPending := by
  intro s id level executes
  refine ⟨fun l coded free => ?_, fun coded pending => ?_, fun traffic full => ?_, fun code params unknown fits => ?_⟩
  · have level : levelOf level = some l := by
      obtain ⟨rfl, rfl⟩ | ⟨rfl, rfl⟩ := coded <;> rfl
    have free : (accepted s).pendingReset = none := free
    refine command_awaited (status := .ok) (result := [])
      (t := { accepted s with pendingReset := some ⟨l, s.partTime + 100⟩ }) executes ?_
    simp only [level, free]
    rfl
  · obtain ⟨p, pending⟩ := Option.ne_none_iff_exists'.mp pending
    have pending : (accepted s).pendingReset = some p := pending
    refine command_answered executes ?_
    obtain rfl | rfl := coded
    · simp [levelOf, pending, Execution.refuse]
    · simp [levelOf, pending, Execution.refuse]
  · refine command_answered executes ?_
    simp [levelOf_eq_none traffic full, Execution.refuse]
  · have answers : exec (.unknownCommand id code params) s = command s id code fun s => .refuse s .unknownCommand := by
      change execUnknownCommand id code params s = _
      simp [execUnknownCommand, paramsFit, unknown, fits]
    rw [answers]
    exact command_answered executes rfl

end Sys2Proof.Machine
end

section
/-! Proofs: what joins the waiting commands at a tick (R1, R45, R46, R87, R97, R109, R149, R157). -/

namespace Sys2Proof.Machine

open Safety

/-! ### How often a command is among the due expiries -/

/-- 1 for a deadline that has been reached, else 0. -/
def dueOnce (now : PartTime) (deadline : Option PartTime) : Nat := if deadline.any (reached now) then 1 else 0

/-- The idle deadline of an OPEN slot. -/
def Slot.idleDeadline : Slot → Option PartTime
  | .opened _ deadline _ => deadline
  | _ => none

/-- The age deadline of an OPEN slot. -/
def Slot.ageDeadline : Slot → Option PartTime
  | .opened _ _ deadline => deadline
  | _ => none

section Counts

variable {s : State} {now : PartTime} {c : Instr}

theorem count_expiryOf (now : PartTime) (deadline : Option PartTime) (i c : Instr) :
    (expiryOf now deadline i).count c = if c = i then dueOnce now deadline else 0 := by
  cases deadline with
  | none => simp [expiryOf, dueOnce]
  | some d =>
    unfold expiryOf dueOnce
    by_cases due : reached now d = true
    · by_cases same : c = i
      · simp [due, same]
      · simp [due, same, List.count_eq_zero]
    · simp [due]

theorem slotExpiries_eq (now : PartTime) (n : SlotNo) (x : Slot) :
    slotExpiries now n x = expiryOf now x.idleDeadline (.idleTimeout n) ++ expiryOf now x.ageDeadline (.ageTimeout n) := by
  cases x with
  | idle => rfl
  | closed => rfl
  | opened b idle age => cases idle <;> cases age <;> rfl

theorem sum_slotNos (f : SlotNo → Nat) (k : SlotNo) : (slotNos.map fun n => if k = n then f n else 0).sum = f k := by
  have all : slotNos = List.finRange 16 := by decide
  rw [all, ← Fin.sum_univ_def, Finset.sum_ite_eq, if_pos (Finset.mem_univ k)]

/-- The idle and age expiries of all slots. -/
theorem count_slots (s : State) (now : PartTime) (c : Instr) :
    (slotNos.flatMap fun n => slotExpiries now n s.slots[n]).count c =
      match c with
      | .idleTimeout n => dueOnce now s.slots[n].idleDeadline
      | .ageTimeout n => dueOnce now s.slots[n].ageDeadline
      | _ => 0 := by
  have each (n : SlotNo) : (slotExpiries now n s.slots[n]).count c =
      (if c = .idleTimeout n then dueOnce now s.slots[n].idleDeadline else 0)
        + (if c = .ageTimeout n then dueOnce now s.slots[n].ageDeadline else 0) := by
    rw [slotExpiries_eq, List.count_append, count_expiryOf, count_expiryOf]
  rw [List.count_flatMap]
  simp only [Function.comp_def, each]
  cases c with
  | idleTimeout k =>
    simp only [Instr.idleTimeout.injEq, reduceCtorEq, if_false, add_zero]
    exact sum_slotNos (fun n => dueOnce now s.slots[n].idleDeadline) k
  | ageTimeout k =>
    simp only [Instr.ageTimeout.injEq, reduceCtorEq, if_false, zero_add]
    exact sum_slotNos (fun n => dueOnce now s.slots[n].ageDeadline) k
  | _ => simp

theorem count_ageings (l : List PartTime) (c : Instr) :
    (l.map fun _ => Instr.startHistoryAgeing).count c = if c = .startHistoryAgeing then l.length else 0 := by
  rw [List.map_const', List.count_replicate]
  by_cases same : c = .startHistoryAgeing
  · simp [same]
  · simp [same, Ne.symm same]

/-- 1 where a release is due, else 0 (R87, R89). -/
def dueRelease (s : State) : Nat :=
  if s.config.paceCount.toNat ≤ s.startHistory.length ∧ s.standingStarts.length < s.config.paceCount.toNat then 1 else 0

theorem count_askAgain (s : State) (c : Instr) :
    (askAgain s).count c =
      if c = .retryCheckAtLimit ∨ c = .retransmissionStart ∨ c = .firstTransmissionStart then dueRelease s else 0 := by
  have due := releaseDue_iff s
  unfold askAgain dueRelease
  by_cases release : s.releaseDue = true
  · rw [if_pos release, if_pos (due.mp release)]
    cases c <;> rfl
  · rw [if_neg release, if_neg fun h => release (due.mpr h)]
    simp

/-- The deadline of a HELLO timer that runs (R97). -/
def HelloTimer.deadline : HelloTimer → Option PartTime
  | .waiting d => some d
  | _ => none

theorem dueExpiries_eq (s : State) :
    dueExpiries s =
      slotNos.flatMap (fun n => slotExpiries s.partTime n s.slots[n])
        ++ (s.startHistory.takeWhile s.aged).map (fun _ => .startHistoryAgeing) ++ askAgain s
        ++ expiryOf s.partTime s.ackTimer .ackTimerExpiry
        ++ expiryOf s.partTime s.helloTimer.deadline .helloTimerExpiry
        ++ expiryOf s.partTime s.drainTimer .drainTimerExpiry
        ++ expiryOf s.partTime (s.pendingReset.map PendingReset.deadline) .resetDeadline := by
  unfold dueExpiries
  cases s.helloTimer <;> rfl

/-- How often each command is among the expiries that are due. -/
theorem count_dueExpiries (s : State) (c : Instr) :
    (dueExpiries s).count c =
      match c with
      | .idleTimeout n => dueOnce s.partTime s.slots[n].idleDeadline
      | .ageTimeout n => dueOnce s.partTime s.slots[n].ageDeadline
      | .startHistoryAgeing => (s.startHistory.takeWhile s.aged).length
      | .retryCheckAtLimit => dueRelease s
      | .retransmissionStart => dueRelease s
      | .firstTransmissionStart => dueRelease s
      | .ackTimerExpiry => dueOnce s.partTime s.ackTimer
      | .helloTimerExpiry => dueOnce s.partTime s.helloTimer.deadline
      | .drainTimerExpiry => dueOnce s.partTime s.drainTimer
      | .resetDeadline => dueOnce s.partTime (s.pendingReset.map PendingReset.deadline)
      | _ => 0 := by
  rw [dueExpiries_eq]
  simp only [List.count_append, count_slots, count_ageings, count_askAgain, count_expiryOf]
  cases c <;> simp

end Counts

/-- Settles O2: a tick counts part time and the straps' level, and the due expiries are the commands that then wait. -/
theorem idleStepCountsOneTick : Obligations.IdleStepCountsOneTick := by
  intro s empty working
  have stepped : step s = .next (tick s) := by
    unfold step
    rw [empty]
  refine ⟨tick s, stepped, fun c => ?_, ?_⟩
  · rw [tick_of_working working]
    refine (count_dueExpiries { s with partTime := s.partTime + 1 } c).trans ?_
    cases c with
    | idleTimeout n =>
      dsimp only
      cases s.slots[n] <;> rfl
    | ageTimeout n =>
      dsimp only
      cases s.slots[n] <;> rfl
    | helloTimerExpiry =>
      dsimp only
      cases s.helloTimer <;> rfl
    | _ => rfl
  · rw [tick_of_working working]

end Sys2Proof.Machine
end

section
/-! Proofs: the lookup in the ACTIVE bank, the Classifier's choice of a port, and what becomes of the record it takes (R22 to R29, R36). -/

namespace Sys2Proof.Machine

open Safety

/-! ### The lookup (R26) -/

section Lookup

variable {s : State} {r : TakenRecord}

theorem hits_iff (e : MatchEntry) (r : TakenRecord) :
    e.hits r = true ↔ e.valid = true ∧ (e.port = none ∨ e.port = some r.port)
      ∧ e.nodeLow.toNat ≤ r.record.node.toNat ∧ r.record.node.toNat ≤ e.nodeHigh.toNat
      ∧ (e.channel = none ∨ e.channel = some r.record.channel) := by
  unfold MatchEntry.hits
  cases e.port <;> cases e.channel <;> simp [and_assoc]

theorem matchNos_length : matchNos.length = 128 := by simp [matchNos]

theorem matchNos_getElem {k : Nat} (h : k < matchNos.length) : (matchNos[k]).val = k := by
  rw [matchNos_length] at h
  simp [matchNos, Nat.mod_eq_of_lt h]

theorem mem_matchNos (i : Fin 128) : i ∈ matchNos := by
  have at_i : i.val < matchNos.length := by rw [matchNos_length]; exact i.isLt
  exact List.mem_of_getElem (h := at_i) (Fin.ext (matchNos_getElem at_i))

theorem lookup_eq_some_iff (i : Fin 128) :
    s.lookup r = some i ↔ s.active[i].hits r = true ∧ ∀ j < i, s.active[j].hits r = false := by
  unfold State.lookup
  rw [List.find?_eq_some_iff_getElem]
  refine and_congr_right fun _ => ⟨?_, fun before => ?_⟩
  · rintro ⟨k, hk, rfl, before⟩ j lt
    have at_j : j.val < matchNos.length := by rw [matchNos_length]; exact j.isLt
    have below : j.val < k := by
      rw [← matchNos_getElem hk]
      exact lt
    have earlier := before j.val below
    rw [Fin.ext (matchNos_getElem at_j)] at earlier
    simpa using earlier
  · have at_i : i.val < matchNos.length := by rw [matchNos_length]; exact i.isLt
    refine ⟨i.val, at_i, Fin.ext (matchNos_getElem at_i), fun k below => ?_⟩
    have at_k : k < matchNos.length := below.trans at_i
    have lt : matchNos[k] < i := by
      rw [Fin.lt_def, matchNos_getElem at_k]
      exact below
    simpa using before _ lt

theorem lookup_eq_none_iff : s.lookup r = none ↔ ∀ i : Fin 128, s.active[i].hits r = false := by
  unfold State.lookup
  simp [List.find?_eq_none, mem_matchNos]

end Lookup

/-- Settles O25: the first match in ascending index, by what a hit is. -/
theorem lookupGivesFirstMatch : Obligations.LookupGivesFirstMatch := by
  intro s r matching
  have miss (i : Fin 128) : s.active[i].hits r = false ↔ ¬ matching i := by
    rw [← Bool.not_eq_true, hits_iff]
  refine ⟨fun i => ?_, ?_⟩
  · rw [lookup_eq_some_iff, hits_iff]
    exact and_congr_right fun _ => forall₂_congr fun j _ => miss j
  · rw [lookup_eq_none_iff]
    exact forall_congr' miss

/-! ### The choice of a port (R22) -/

section Choice

variable {s : State}

/-- In RUN with the hold stage empty the first port, from the pointer on, that has a complete record is served. -/
theorem nextTake_of_first (run : s.opState = .run) (free : s.hold = none) {p : PortNo} {r : FieldRecord}
    {rest : List FieldRecord} {k : Nat} (lt : k < 4) (turn : p.val = (s.roundRobin.val + k) % 4)
    (fifo : s.ports[p].fifo = r :: rest)
    (empty : ∀ q : PortNo, ∀ j < k, q.val = (s.roundRobin.val + j) % 4 → s.ports[q].fifo = []) :
    s.nextTake = some (p, r, rest) := by
  have here : p = s.roundRobin + Fin.ofNat 4 k := Fin.ext (by simp [turn, Fin.val_add])
  have before (j : Nat) (below : j < k) : s.ports[s.roundRobin + Fin.ofNat 4 j].fifo = [] :=
    empty _ j below (by simp [Fin.val_add])
  subst here
  unfold State.nextTake
  rw [if_pos ⟨run, free⟩, lookOrder]
  obtain rfl | rfl | rfl | rfl : k = 0 ∨ k = 1 ∨ k = 2 ∨ k = 3 := by omega
  · have at0 : s.ports[s.roundRobin].fifo = r :: rest := by simpa using fifo
    simp [-Fin.getElem_fin, at0]
  · have at0 : s.ports[s.roundRobin].fifo = [] := by simpa using before 0 (by omega)
    have at1 : s.ports[s.roundRobin + 1].fifo = r :: rest := fifo
    simp [-Fin.getElem_fin, at0, at1]
    rfl
  · have at0 : s.ports[s.roundRobin].fifo = [] := by simpa using before 0 (by omega)
    have at1 : s.ports[s.roundRobin + 1].fifo = [] := before 1 (by omega)
    have at2 : s.ports[s.roundRobin + 2].fifo = r :: rest := fifo
    simp [-Fin.getElem_fin, at0, at1, at2]
  · have at0 : s.ports[s.roundRobin].fifo = [] := by simpa using before 0 (by omega)
    have at1 : s.ports[s.roundRobin + 1].fifo = [] := before 1 (by omega)
    have at2 : s.ports[s.roundRobin + 2].fifo = [] := before 2 (by omega)
    have at3 : s.ports[s.roundRobin + 3].fifo = r :: rest := fifo
    simp [-Fin.getElem_fin, at0, at1, at2, at3]

/-- A Classifier that is not ready takes nothing. -/
theorem nextTake_of_not_ready (h : s.opState ≠ .run ∨ s.hold ≠ none ∨ ∀ p : PortNo, s.ports[p].fifo = []) :
    s.nextTake = none := by
  unfold State.nextTake
  split
  · rename_i ready
    obtain other | held | empty := h
    · exact absurd ready.1 other
    · exact absurd ready.2 held
    · rw [List.findSome?_eq_none_iff]
      intro p _
      rw [empty p]
  · rfl

theorem classifierTake_of_none (h : s.nextTake = none) : classifierTake s = s := by
  unfold classifierTake
  rw [h]

end Choice

/-! ### Placement leaves the count of records taken -/

section Taken

variable {s : State}

theorem startEviction_taken (s : State) : (startEviction s).classify.taken = s.classify.taken := by
  unfold startEviction
  split
  · rename_i n _ _ _
    exact (congrArg ClassifyCounters.taken (closeSlot_classify s n .evicted) :)
  · rfl

theorem placeNew_taken (s : State) (p : Fin 32) (r : TakenRecord) :
    (placeNew s p r).1.classify.taken = s.classify.taken := by
  obtain ⟨n, _, _, opens⟩ | ⟨n, _, _, refuses⟩ | ⟨_, evicts⟩ := placeNew_cases s p r
  · rw [opens]
    exact congrArg ClassifyCounters.taken ((openSlot_classify _ n p r _).trans (granted_gains s _).1)
  · rw [refuses]
    exact congrArg ClassifyCounters.taken (refused_gains s).1
  · rw [evicts]
    exact startEviction_taken s

theorem placeValid_taken (s : State) (p : Fin 32) (r : TakenRecord) :
    (placeValid s p r).1.classify.taken = s.classify.taken := by
  obtain ⟨_, new⟩ | ⟨n, b, age, _, _, past⟩ | ⟨n, b, age, _, _, fits⟩ := placeValid_cases s p r
  · rw [new]
    exact placeNew_taken s p r
  · rw [past]
    exact (placeNew_taken _ p r).trans (congrArg ClassifyCounters.taken (closeSlot_classify s n .byteLimit))
  · obtain ⟨_, room⟩ | ⟨_, ⟨_, grants⟩ | ⟨_, refuses⟩⟩ := fits
    · rw [room]
      exact congrArg ClassifyCounters.taken (appendEntry_classify s n b age r [])
    · rw [grants]
      exact congrArg ClassifyCounters.taken ((appendEntry_classify _ n b age r _).trans (granted_gains s 1).1)
    · rw [refuses]
      exact congrArg ClassifyCounters.taken ((closeSlot_classify _ n .poolEmpty).trans (refused_gains s).1)

theorem place_taken (s : State) (p : Fin 32) (r : TakenRecord) : (place s p r).1.classify.taken = s.classify.taken := by
  have placed := placeValid_taken s p r
  cases valid : s.profiles[p].valid with
  | false => rw [place_of_invalid valid]
  | true =>
    obtain appended | waits := placeValid_result s p r
    · rw [place_of_appended valid (Prod.ext rfl appended)]
      exact placed
    · rw [place_of_wait valid (Prod.ext rfl waits)]
      exact placed

theorem handOver_taken (s : State) (p : Fin 32) (r : TakenRecord) : (handOver s p r).classify.taken = s.classify.taken := by
  have placed := place_taken s p r
  rw [handOver_of_place (Prod.eta _).symm]
  split
  · exact placed
  · exact placed

theorem classified_taken (s : State) (r : TakenRecord) : (classified s r).classify.taken = s.classify.taken := by
  obtain ⟨counters, _⟩ := reportMiss_same s r
  unfold classified
  split
  · unfold handleHit
    dsimp only
    split
    · rfl
    · exact handOver_taken _ _ r
  · unfold handleMiss
    dsimp only
    split
    · exact (congrArg ClassifyCounters.taken counters :)
    · exact (handOver_taken _ _ r).trans (congrArg ClassifyCounters.taken counters)

theorem reportMiss_reach (s : State) (r : TakenRecord) :
    (reportMiss s r).roundRobin = s.roundRobin ∧ (reportMiss s r).config = s.config := by
  unfold reportMiss
  split
  · have raised := raise_reach { s with routeMissArmed := false } (.routeMiss r.port r.record.node r.record.channel)
    exact ⟨(congrArg State.roundRobin raised :), (congrArg State.config raised :)⟩
  · exact ⟨rfl, rfl⟩

theorem classified_roundRobin (s : State) (r : TakenRecord) : (classified s r).roundRobin = s.roundRobin := by
  unfold classified
  split
  · unfold handleHit
    dsimp only
    split
    · rfl
    · exact (congrArg State.roundRobin (handOver_reach _ _ r) :)
  · unfold handleMiss
    dsimp only
    split
    · exact (reportMiss_reach s r).1
    · exact (congrArg State.roundRobin (handOver_reach _ _ r) :).trans (reportMiss_reach s r).1

end Taken

/-! ### What becomes of a taken record (R24, R27, R28, R36) -/

section Handling

variable {s : State} {r : TakenRecord}

/-- The record offered for its first attempt, and held where it must wait. -/
theorem handOver_eq (s : State) (p : Fin 32) (r : TakenRecord) :
    handOver s p r = if (place s p r).2 = .wait then
        { (place s p r).1 with
          hold := some ⟨r, p⟩
          classify := { (place s p r).1.classify with holdEntries := bump (place s p r).1.classify.holdEntries } }
      else (place s p r).1 :=
  handOver_of_place (Prod.eta _).symm

theorem classified_of_drop {i : Fin 128} (hit : s.lookup r = some i) (drop : s.active[i].action = .drop) :
    classified s r =
      { s with
        matchHits := s.matchHits.set i.val (bump s.matchHits[i]) i.isLt
        classify := { s.classify with ruleDrops := bump s.classify.ruleDrops } } := by
  simp only [classified, hit, handleHit, drop]

theorem classified_of_route {i : Fin 128} {q : Fin 32} (hit : s.lookup r = some i) (route : s.active[i].action = .route q) :
    classified s r = handOver { s with matchHits := s.matchHits.set i.val (bump s.matchHits[i]) i.isLt } q r := by
  simp only [classified, hit, handleHit, route]

theorem classified_of_miss_drop (miss : s.lookup r = none) (drop : s.config.missAction = .drop) :
    classified s r =
      { reportMiss s r with classify := { s.classify with missDrops := bump s.classify.missDrops } } := by
  have action : (reportMiss s r).config.missAction = .drop := by rw [(reportMiss_reach s r).2, drop]
  simp only [classified, miss, handleMiss, action, (reportMiss_same s r).1]

theorem classified_of_miss_default (miss : s.lookup r = none) (toDefault : s.config.missAction = .toDefault) :
    classified s r = handOver (reportMiss s r) s.config.defaultProfile r := by
  have action : (reportMiss s r).config.missAction = .toDefault := by rw [(reportMiss_reach s r).2, toDefault]
  simp only [classified, miss, handleMiss, action]
  rw [(reportMiss_reach s r).2]

end Handling

/-- Settles O26: the port whose turn it is, then the record by what its lookup gives. -/
theorem classifierTakesInTurnAndHandlesRecord : Obligations.ClassifierTakesInTurnAndHandlesRecord := by
  refine ⟨fun s working => ⟨fun p r rest k run free lt turn fifo empty => ?_, fun idle => ?_⟩, ?_⟩
  · have next := nextTake_of_first run free lt turn fifo empty
    have answer : exec .classifierTake s = .next (classified (afterTake s p rest) ⟨p, r⟩) := by
      rw [← classifierTake_of_next next]
      exact live_of_working working classifierTake
    refine ⟨_, answer, ?_, ?_, ?_⟩
    · rw [classified_roundRobin]
      simp [afterTake, Fin.val_add]
    · exact classified_ports _ _
    · exact classified_taken _ _
  · have answer : exec .classifierTake s = .next (classifierTake s) := live_of_working working classifierTake
    rw [answer, classifierTake_of_none (nextTake_of_not_ready idle)]
  · intro s p r rest working next c left reported hit offered
    have answer : exec .classifierTake s = .next (classified left ⟨p, r⟩) := by
      have taken : classifierTake s = classified left ⟨p, r⟩ := classifierTake_of_next next
      rw [← taken]
      exact live_of_working working classifierTake
    have routed (i : Fin 128) (q : Fin 32) (found : s.lookup ⟨p, r⟩ = some i) (route : s.active[i].action = .route q) :
        exec .classifierTake s = .next (handOver (hit i) q ⟨p, r⟩) := by
      rw [answer]
      exact congrArg Host.Outcome.next (classified_of_route (s := left) found route)
    refine ⟨fun i found drop => ?_, fun i q found route => ?_, fun i q found route invalid => ?_, fun miss drop => ?_,
      fun miss toDefault => ?_⟩
    · rw [answer]
      exact congrArg Host.Outcome.next (classified_of_drop (s := left) found drop)
    · rw [routed i q found route]
      exact congrArg Host.Outcome.next (handOver_eq (hit i) q ⟨p, r⟩)
    · have dropped := place_of_invalid (s := hit i) (p := q) invalid ⟨p, r⟩
      rw [routed i q found route, handOver_of_place dropped]
      rfl
    · rw [answer]
      exact congrArg Host.Outcome.next (classified_of_miss_drop (s := left) miss drop)
    · rw [answer, classified_of_miss_default (s := left) miss toDefault]
      exact congrArg Host.Outcome.next (handOver_eq reported _ ⟨p, r⟩)

end Sys2Proof.Machine
end

section
/-! Proofs: the placement of a record: an append, an opening, and what happens where neither is possible (R49, R54 to R58). -/

namespace Sys2Proof.Machine

open Safety

/-! ### Which slot an attempt finds (R52, R54, R56) -/

section Finding

variable {s : State} {p : Fin 32} {n : SlotNo}

theorem openSlotOf_of_opened (sound : SlotTableSound s) {b : Bundle} {idle age : Option PartTime}
    (opened : s.slots[n] = .opened b idle age) : s.openSlotOf b.snapshot.profile = some (n, b, age) := by
  have here : openProfile s.slots[n] = some b.snapshot.profile := by rw [opened]; rfl
  cases found : s.openSlotOf b.snapshot.profile with
  | none => exact absurd here (openSlotOf_eq_none found n)
  | some slot =>
    obtain ⟨m, b', age'⟩ := slot
    obtain ⟨idle', opened', profile⟩ := openSlotOf_eq_some found
    have there : openProfile s.slots[m] = some b.snapshot.profile := by rw [opened', ← profile]; rfl
    obtain rfl := sound.one_open m n _ there here
    cases opened'.symm.trans opened
    rfl

theorem openSlotOf_of_none (shut : ∀ m : SlotNo, openProfile s.slots[m] ≠ some p) : s.openSlotOf p = none := by
  cases found : s.openSlotOf p with
  | none => rfl
  | some slot =>
    obtain ⟨m, b, age⟩ := slot
    obtain ⟨idle, opened, profile⟩ := openSlotOf_eq_some found
    exact absurd (by rw [opened, ← profile]; rfl) (shut m)

theorem slotNos_getElem : ∀ k : Fin 16, slotNos[k.val]? = some k := by decide

theorem lowestIdle_of_idle (idle : s.slots[n] = .idle) (lowest : ∀ m : SlotNo, m < n → s.slots[m] ≠ .idle) :
    s.lowestIdle = some n := by
  unfold State.lowestIdle
  rw [List.find?_eq_some_iff_getElem]
  obtain ⟨at_n, same⟩ := List.getElem?_eq_some_iff.mp (slotNos_getElem n)
  refine ⟨decide_eq_true idle, n.val, at_n, same, fun k below => ?_⟩
  obtain ⟨_, earlier⟩ := List.getElem?_eq_some_iff.mp (slotNos_getElem ⟨k, below.trans n.isLt⟩)
  dsimp only at earlier
  rw [earlier]
  simpa using lowest ⟨k, below.trans n.isLt⟩ below

theorem lowestIdle_of_none (busy : ∀ m : SlotNo, s.slots[m] ≠ .idle) : s.lowestIdle = none := by
  cases found : s.lowestIdle with
  | none => rfl
  | some m => exact absurd (lowestIdle_eq_some found) (busy m)

theorem lowestIdle_of_exists (idle : ∃ m : SlotNo, s.slots[m] = .idle) : ∃ m, s.lowestIdle = some m := by
  obtain ⟨m, idle⟩ := idle
  cases found : s.lowestIdle with
  | some m => exact ⟨m, rfl⟩
  | none =>
    have passed := List.find?_eq_none.mp found m (mem_slotNos m)
    simp only [decide_eq_true_eq] at passed
    exact absurd idle passed

end Finding

/-! ### Closes, written out (R48) -/

/-- The state a close leaves: the slot CLOSED with its cause, out of the Open Order List, at the tail of its class's list, counted. -/
def closedState (s : State) (n : SlotNo) (b : Bundle) (cause : CloseCause) (cls : BundleClass) (causes : CauseCounters) :
    State :=
  { s with
    slots := s.slots.set n.val (.closed b cause cls) n.isLt
    openOrder := s.openOrder.erase n
    closeExpress := if cls = .express then s.closeExpress ++ [n] else s.closeExpress
    closeBulk := if cls = .bulk then s.closeBulk ++ [n] else s.closeBulk
    causes := causes }

theorem closeSlot_eq {s : State} {n : SlotNo} {b : Bundle} {idle age : Option PartTime}
    (opened : s.slots[n] = .opened b idle age) (cause : CloseCause) :
    closeSlot s n cause = closedState s n b cause (queueClassOf b cause) (s.causes.countClose cause) := by
  rw [closeSlot_opened opened]
  cases queueClassOf b cause <;> rfl

/-! ### An append (R55) -/

section Append

variable {s u : State} {n : SlotNo} {b : Bundle} {r : TakenRecord} {blocks : List BlockNo}

/-- The content of a chain that blocks join is as it was. -/
theorem readContent_append {m : Memory} {chain : List BlockNo} {k : Nat} (fits : k ≤ 128 * chain.length) :
    readContent m (chain ++ blocks) k = readContent m chain k := by
  unfold readContent
  refine List.map_congr_left fun i mem => ?_
  rw [contentAddr_append (by have := List.mem_range.mp mem; omega)]

/-- The entry stands at the end of the content, which is otherwise as it was. -/
theorem readContent_appended (wf : s.blockMem.wf = true) (apart : BlocksApart s) {idle age : Option PartTime}
    (opened : s.slots[n] = .opened b idle age) (sound : BundleSound b) (free : ∀ x ∈ blocks, x ∈ s.freeList)
    (nodup : blocks.Nodup) {bytes : List Byte} (fits : b.contentLength + bytes.length ≤ 128 * (b.chain ++ blocks).length) :
    readContent (writeContent s.blockMem (b.chain ++ blocks) b.contentLength bytes) (b.chain ++ blocks)
        (b.contentLength + bytes.length)
      = readContent s.blockMem b.chain b.contentLength ++ bytes := by
  have chain : slotChain s.slots[n] = b.chain := by rw [opened]; rfl
  have distinct : (b.chain ++ blocks).Nodup := by
    refine List.nodup_append.mpr ⟨chain ▸ apart.slot_nodup n, nodup, fun x held y given same => ?_⟩
    exact apart.free_slot y (free y given) n (chain ▸ same ▸ held)
  rw [readContent_writeContent wf distinct _ _ fits, readContent_append (chainFits_le sound.chain)]

/-- What an append leaves, where the request for its block, if one was needed, left the part otherwise as it was. -/
theorem appendEntry_leaves (mem : u.blockMem = s.blockMem) (slots : u.slots = s.slots) (time : u.partTime = s.partTime)
    (counters : u.classify = s.classify) (age : Option PartTime) :
    (appendEntry u n b age r blocks).blockMem
        = writeContent s.blockMem (b.chain ++ blocks) b.contentLength (entryBytes r b.recordCount (entryStamp s b))
      ∧ (∀ m : SlotNo, (appendEntry u n b age r blocks).slots[m] = if m = n then
          appendedSlot r (b.appended r blocks) (deadlineAfter s.partTime b.snapshot.idleTime) age else s.slots[m])
      ∧ (appendEntry u n b age r blocks).freeList = u.freeList
      ∧ (appendEntry u n b age r blocks).classify = s.classify := by
  have stamp : entryStamp u b = entryStamp s b := by rw [entryStamp, entryStamp, time]
  refine ⟨?_, fun m => ?_, ?_, (appendEntry_classify u n b age r blocks).trans counters⟩
  · rw [appendEntry_eq, postAppend_blockMem, stamp, ← mem]
    rfl
  · rw [appendEntry_eq, postAppend_withEntry_slots, time, slots]
  · rw [appendEntry_eq, postAppend_freeList]
    rfl

end Append

theorem granted_partTime (s : State) (k : Nat) : (granted s k).partTime = s.partTime :=
  (congrArg State.partTime (granted_reach s k) :)

/-- Settles O28: with or without a further block the entry is written at the end of the content, and the checks follow. -/
theorem placementAppendsToOpenSlot : Obligations.PlacementAppendsToOpenSlot := by
  intro s r n b idle age wf pool bundles table payload opened valid size within block stamp
  have found := openSlotOf_of_opened table opened
  have sound : BundleSound b := by
    have here := bundles.slots n
    rw [opened] at here
    exact here.1
  have apart := blocksApart pool
  have small := (entrySize_bounds b.snapshot.stamp payload).2
  have bytes := entryStamp_length s b r b.recordCount
  have appends {u : State} (blocks : List BlockNo) (mem : u.blockMem = s.blockMem) (slots : u.slots = s.slots)
      (time : u.partTime = s.partTime) (counters : u.classify = s.classify)
      (free : ∀ x ∈ blocks, x ∈ s.freeList) (nodup : blocks.Nodup)
      (placed : blocks = [] ∧ size ≤ 128 - b.lastBytes ∨ blocks.length = 1 ∧ 128 - b.lastBytes < size)
      (answer : placeValid s b.snapshot.profile r = (appendEntry u n b age r blocks, .appended)) :
      ∃ s', place s b.snapshot.profile r = (s', .appended) ∧ s'.freeList = u.freeList
        ∧ readContent s'.blockMem (b.appended r blocks).chain (b.appended r blocks).contentLength
          = readContent s.blockMem b.chain b.contentLength ++ entryBytes r b.recordCount stamp
        ∧ s'.slots[n] = appendedSlot r (b.appended r blocks) (deadlineAfter s.partTime b.snapshot.idleTime) age
        ∧ (∀ m : SlotNo, m ≠ n → s'.slots[m] = s.slots[m])
        ∧ s'.classify = { s.classify with appended := bump s.classify.appended } := by
    obtain ⟨written, inSlots, left, counted⟩ := appendEntry_leaves (n := n) (b := b) (r := r) (blocks := blocks) mem slots
      time counters age
    refine ⟨_, place_of_appended valid answer, left, ?_, ?_, fun m other => ?_, ?_⟩
    · have content := readContent_appended wf apart opened sound free nodup
        (bytes := entryBytes r b.recordCount (entryStamp s b)) (by rw [bytes]; exact appended_fits sound small placed)
      have longer : (b.appended r blocks).contentLength
          = b.contentLength + (entryBytes r b.recordCount (entryStamp s b)).length := by
        rw [bytes, Bundle.contentLength, Bundle.contentLength, Nat.add_assoc]
        rfl
      rw [longer]
      exact (congrArg (fun mem => readContent mem (b.chain ++ blocks) _) written).trans content
    · exact (inSlots n).trans (if_pos rfl)
    · exact (inSlots m).trans (if_neg other)
    · exact congrArg (fun c : ClassifyCounters => { c with appended := bump c.appended }) counted
  by_cases room : size ≤ 128 - b.lastBytes
  · obtain ⟨s', placed, left, content, here, others, counters⟩ := appends [] rfl rfl rfl rfl nofun List.nodup_nil
      (.inl ⟨rfl, room⟩) (placeValid_of_room found within room)
    exact ⟨s', b.appended r [], placed, rfl, rfl, rfl, rfl, by rw [if_pos room]; rfl, by rw [left, if_pos room], content,
      here, others, counters⟩
  · have free : 1 ≤ s.freeList.length := List.length_pos_iff.mpr (block.resolve_left room)
    have more := Nat.lt_of_not_le room
    obtain ⟨s', placed, left, content, here, others, counters⟩ := appends (s.freeList.take 1) (granted_blockMem s 1)
      (granted_slots s 1) (granted_partTime s 1) (granted_gains s 1).1 (fun x mem => List.mem_of_mem_take mem)
      (apart.free_nodup.sublist (List.take_sublist 1 _)) (.inr ⟨List.length_take_of_le free, more⟩)
      (placeValid_of_granted found within more free)
    exact ⟨s', b.appended r (s.freeList.take 1), placed, rfl, rfl, rfl, rfl, by rw [if_neg room]; rfl,
      by rw [left, granted_freeList, if_neg room], content, here, others, counters⟩

/-! ### An opening (R56) -/

theorem granted_openedBundle (s : State) (k : Nat) (p : Fin 32) (r : TakenRecord) (blocks : List BlockNo) :
    openedBundle (granted s k) p r blocks = openedBundle s p r blocks := by
  unfold openedBundle
  rw [(granted_reach s k).profiles, granted_templateBytes, granted_partTime]

/-- Settles O29: the granted blocks, the template and the first entry written along them, the checks. -/
theorem placementOpensLowestIdleSlot : Obligations.PlacementOpensLowestIdleSlot := by
  intro s p r n wf pool payload templates valid none idle lowest prof template size need free
  have apart := blocksApart pool
  have needed : openNeed s s.profiles[p] r = need := rfl
  have answer : placeValid s p r = (openSlot (granted s need) n p r (s.freeList.take need), .appended) := by
    rw [placeValid_of_none none]
    exact placeNew_of_granted (lowestIdle_of_idle idle lowest) free
  have content : (openingContent s p r).length = template.length + size := openingContent_length s p r
  have chain : (s.freeList.take need).length = need := List.length_take_of_le free
  have fits : template.length + size ≤ 128 * need := by
    have short : template.length ≤ 32 := by
      change (s.templateBytes s.profiles[p]).length ≤ 32
      unfold State.templateBytes
      split
      · exact Nat.zero_le 32
      · exact templates _
    have small : size ≤ 126 := (entrySize_bounds s.profiles[p].stamp payload).2
    change _ ≤ 128 * (if template.length + size ≤ 128 then 1 else 2)
    split <;> omega
  have written : (openSlot (granted s need) n p r (s.freeList.take need)).blockMem
      = writeContent s.blockMem (s.freeList.take need) 0 (openingContent s p r) := by
    rw [openSlot_eq, postAppend_blockMem, granted_openingContent]
    exact congrArg (fun m => writeContent m _ _ _) (granted_blockMem s need)
  have inSlots (m : SlotNo) : (openSlot (granted s need) n p r (s.freeList.take need)).slots[m] = if m = n then
      appendedSlot r (openedBundle s p r (s.freeList.take need)) (deadlineAfter s.partTime prof.idleTime)
        (deadlineAfter s.partTime prof.ageLimit) else s.slots[m] := by
    rw [openSlot_eq, postAppend_withEntry_slots, granted_openedBundle, granted_partTime, (granted_reach s need).profiles,
      granted_slots]
  refine ⟨_, openedBundle s p r (s.freeList.take need), place_of_appended valid answer, rfl, rfl, rfl, rfl, rfl, ?_, ?_,
    (inSlots n).trans (if_pos rfl), fun m other => (inSlots m).trans (if_neg other), ?_⟩
  · change (openSlot (granted s need) n p r (s.freeList.take need)).freeList = _
    rw [openSlot_eq, postAppend_freeList]
    exact granted_freeList s need
  · have run := readContent_writeContent wf (apart.free_nodup.sublist (List.take_sublist need s.freeList)) 0
      (openingContent s p r) (by rw [content, chain, Nat.zero_add]; exact fits)
    have length : (openedBundle s p r (s.freeList.take need)).contentLength = 0 + (openingContent s p r).length := by
      rw [content, Nat.zero_add]
      rfl
    rw [length]
    exact (congrArg (fun m => readContent m (s.freeList.take need) _) written).trans run
  · have counters : (openSlot (granted s need) n p r (s.freeList.take need)).classify = s.classify :=
      (openSlot_classify _ n p r _).trans (granted_gains s need).1
    exact congrArg (fun c : ClassifyCounters => { c with appended := bump c.appended }) counters

/-! ### No room (R54, R57, R58) -/

section NoRoom

variable {s : State} {p : Fin 32} {r : TakenRecord}

theorem refused_allocFailures (s : State) : (refused s).allocFailures = bump s.allocFailures := by
  unfold refused checkPoolExhausted
  split
  · exact (congrArg State.allocFailures
      (raise_reach { s with allocFailures := bump s.allocFailures, poolExhaustedArmed := false } .poolExhausted) :)
  · rfl

/-- Attempts whose cases of R54 go the same way end the same way. -/
theorem place_congr {t : State} (valid : s.profiles[p].valid = true) (valid' : t.profiles[p].valid = true)
    (same : placeValid s p r = placeValid t p r) : place s p r = place t p r := by
  unfold place
  rw [if_pos valid, if_pos valid', same]

theorem startEviction_of_none {n : SlotNo} {rest : List SlotNo} (mark : s.evictionMark = none)
    (order : s.openOrder = n :: rest) :
    startEviction s =
      { closeSlot s n .evicted with
        evictionMark := some n
        classify := { s.classify with evictions := bump s.classify.evictions } } := by
  simp only [startEviction, mark, order]
  rw [closeSlot_classify]

theorem startEviction_of_marked (h : s.evictionMark ≠ none ∨ s.openOrder = []) : startEviction s = s := by
  unfold startEviction
  split
  · rename_i mark order
    obtain marked | empty := h
    · exact absurd mark marked
    · cases empty.symm.trans order
  · rfl

/-- After its close no slot is OPEN for the profile id (R52). -/
theorem openSlotOf_closeSlot (sound : SlotTableSound s) {n : SlotNo} {b : Bundle} {idle age : Option PartTime}
    (opened : s.slots[n] = .opened b idle age) (profile : b.snapshot.profile = p) (cause : CloseCause) :
    (closeSlot s n cause).openSlotOf p = none := by
  refine openSlotOf_of_none fun m => ?_
  rw [closeSlot_slots opened]
  split
  · exact nofun
  · rename_i other
    intro here
    exact other (sound.one_open m n p here (by rw [opened, ← profile]; rfl))

end NoRoom

/-- Settles O30: each of the four ways in which the record finds no room. -/
theorem placementClosesWaitsOrEvicts : Obligations.PlacementClosesWaitsOrEvicts := by
  intro s p r table valid
  refine ⟨fun n b idle age opened profile past => ?_, fun none idle short => ?_,
    fun n b idle age opened profile empty fits more => ?_, fun none busy => ⟨fun n rest b idle age mark order opened => ?_,
    fun stuck => ?_⟩⟩
  · intro closed
    have same : closeSlot s n .byteLimit = closed := closeSlot_eq opened .byteLimit
    rw [← same]
    have none := openSlotOf_closeSlot table opened profile .byteLimit
    refine ⟨none, place_congr valid ?_ ?_⟩
    · rw [(closeSlot_reach s n .byteLimit).profiles]
      exact valid
    · rw [placeValid_of_over (profile ▸ openSlotOf_of_opened table opened) past, placeValid_of_none none]
  · obtain ⟨n, lowest⟩ := lowestIdle_of_exists idle
    have answer : placeValid s p r = (refused s, .wait) := by
      rw [placeValid_of_none none]
      exact placeNew_of_refused lowest short
    exact ⟨refused s, place_of_wait valid answer, refused_slots s, refused_freeList s, refused_allocFailures s⟩
  · have answer : placeValid s p r = (closeSlot (refused s) n .poolEmpty, .wait) :=
      placeValid_of_refused (profile ▸ openSlotOf_of_opened table opened) fits more (by rw [empty]; exact Nat.zero_lt_one)
    have still : (refused s).slots[n] = .opened b idle age := by rw [refused_slots, opened]
    refine ⟨_, place_of_wait valid answer, ?_, ?_⟩
    · rw [closeSlot_eq still]
      exact congrArg (fun v : Vector Slot 16 => v.set n.val _ n.isLt) (refused_slots s)
    · rw [closeSlot_eq still]
      exact refused_allocFailures s
  · have answer : placeValid s p r = (startEviction s, .wait) := by
      rw [placeValid_of_none none]
      exact placeNew_of_none (lowestIdle_of_none busy)
    refine ⟨_, place_of_wait valid answer, ?_⟩
    rw [startEviction_of_none mark order, closeSlot_eq opened]
    refine ⟨rfl, rfl, ?_, rfl⟩
    change s.openOrder.erase n = rest
    rw [order, List.erase_cons_head]
  · have answer : placeValid s p r = (s, .wait) := by
      rw [placeValid_of_none none, placeNew_of_none (lowestIdle_of_none busy), startEviction_of_marked stuck]
    exact place_of_wait valid answer

end Sys2Proof.Machine
end

section
/-! Proofs: expiries of OPEN slots, the move of a closed bundle with what it brings about, and the start of a new bundle under the Pacer (R45, R46, R59, R61, R63, R80 to R89, R106). -/

namespace Sys2Proof.Machine

open Safety

/-! ### Expiries (R45 to R47) -/

section Expiries

variable {s : State} {n : SlotNo} {b : Bundle} {idle age : Option PartTime}

theorem idleExpiry_of_due {d : PartTime} (opened : s.slots[n] = .opened b (some d) age) (due : reached s.partTime d = true) :
    idleExpiry s n = closeSlot s n .idleTimeout := by
  simp only [idleExpiry, opened, due, if_true]

theorem ageExpiry_of_due {d : PartTime} (opened : s.slots[n] = .opened b idle (some d)) (due : reached s.partTime d = true) :
    ageExpiry s n = closeSlot s n .ageTimeout := by
  simp only [ageExpiry, opened, due, if_true]

theorem idleExpiry_of_early (opened : s.slots[n] = .opened b idle age)
    (early : ∀ d, idle = some d → reached s.partTime d = false) : idleExpiry s n = s := by
  cases idle with
  | none => simp only [idleExpiry, opened]
  | some d => simp [-Fin.getElem_fin, idleExpiry, opened, early d rfl]

theorem ageExpiry_of_early (opened : s.slots[n] = .opened b idle age)
    (early : ∀ d, age = some d → reached s.partTime d = false) : ageExpiry s n = s := by
  cases age with
  | none => simp only [ageExpiry, opened]
  | some d => simp [-Fin.getElem_fin, ageExpiry, opened, early d rfl]

theorem expiries_of_not_open (shut : slotOpen s.slots[n] = false) : idleExpiry s n = s ∧ ageExpiry s n = s := by
  cases hs : s.slots[n] with
  | idle => simp only [idleExpiry, ageExpiry, hs, and_self]
  | closed => simp only [idleExpiry, ageExpiry, hs, and_self]
  | opened =>
    rw [hs] at shut
    cases shut

end Expiries

/-- Settles O32: an expiry that is due is a close, every other one is void. -/
theorem expiryClosesOpenSlot : Obligations.ExpiryClosesOpenSlot := by
  intro s n working
  have idles : exec (.idleTimeout n) s = .next (idleExpiry s n) := live_of_working working (idleExpiry · n)
  have ages : exec (.ageTimeout n) s = .next (ageExpiry s n) := live_of_working working (ageExpiry · n)
  rw [idles, ages]
  refine ⟨fun b idle age opened => ⟨?_, ?_, fun early => ?_, fun early => ?_⟩, fun shut => ?_⟩
  · rintro d rfl due
    rw [idleExpiry_of_due opened due, closeSlot_eq opened]
    rfl
  · rintro d rfl due
    rw [ageExpiry_of_due opened due, closeSlot_eq opened]
    rfl
  · rw [idleExpiry_of_early opened early]
  · rw [ageExpiry_of_early opened early]
  · obtain ⟨idle, age⟩ := expiries_of_not_open shut
    rw [idle, age]
    exact ⟨rfl, rfl⟩

/-! ### The end of DRAINING, written out (R142, R148) -/

/-- The one IN_PROGRESS entry of a cache, in its place, takes the reply. -/
theorem endDrain_of_split {s : State} {before after : List CacheEntry} {e : CacheEntry}
    (cache : s.replyCache = before ++ e :: after) (waits : e.reply = none) (one : s.replyCache.countP inProgress = 1)
    (status : Status) (result : List Byte) :
    endDrain s status result =
      { s with
        drainTimer := none, opState := .quiesced
        replyCache := before ++ ⟨e.id, e.code, some ⟨e.id, e.code, status, result⟩⟩ :: after
        controlQueue := s.lateReply ⟨e.id, e.code, status, result⟩ } := by
  have progress : inProgress e = true := by rw [inProgress, waits]; rfl
  rw [cache, List.countP_append, List.countP_cons_of_pos progress] at one
  have done {l : List CacheEntry} (none : l.countP inProgress = 0) : ∀ c ∈ l, c.reply.isNone = false := fun c mem =>
    Bool.eq_false_iff.mpr (List.countP_eq_zero.mp none c mem)
  have first := done (l := before) (by omega)
  have last := done (l := after) (by omega)
  have found : s.replyCache.find? (fun c => c.reply.isNone) = some e := by
    rw [cache, List.find?_append, List.find?_eq_none.mpr fun c mem => by simp [first c mem]]
    simp [waits]
  have keeps {l : List CacheEntry} (reply : MgmtReply) (done : ∀ c ∈ l, c.reply.isNone = false) :
      answeredCache l reply = l := by
    unfold answeredCache
    rw [List.map_congr_left (g := id) fun c mem => by simp [done c mem], List.map_id]
  have answered (reply : MgmtReply) : answeredCache s.replyCache reply = before ++ ⟨e.id, e.code, some reply⟩ :: after := by
    rw [cache]
    unfold answeredCache
    rw [List.map_append, List.map_cons]
    change answeredCache before reply ++ _ :: answeredCache after reply = _
    rw [keeps reply first, keeps reply last, if_pos (by rw [waits]; rfl)]
  rw [endDrain_of_entry _ _ found, answered]

/-! ### The move of a closed bundle (R63) -/

section Moves

variable {s : State} {cls : BundleClass} {n : SlotNo} {rest : List SlotNo}

/-- What a move leaves, written out. -/
theorem moved_eq (order : s.closeOrder cls = n :: rest) (d : Descriptor) :
    moved s n cls d =
      { (s.setCloseOrder cls rest).setQueue cls (s.queue cls ++ [d]) with
        slots := s.slots.set n.val .idle n.isLt
        evictionMark := if s.evictionMark = some n then none else s.evictionMark } := by
  have gone : (s.closeOrder cls).erase n = rest := by rw [order, List.erase_cons_head]
  unfold moved vacate
  rw [gone]
  cases cls <;> rfl

theorem moved_same (s : State) (n : SlotNo) (cls : BundleClass) (d : Descriptor) :
    (moved s n cls d).opState = s.opState ∧ (moved s n cls d).hold = s.hold
      ∧ (moved s n cls d).replyCache = s.replyCache := by
  cases cls <;> exact ⟨rfl, rfl, rfl⟩

theorem slotBecameIdle_of_quiesced (quiesced : s.opState = .quiesced) : slotBecameIdle s = s := by
  unfold slotBecameIdle
  rw [quiesced]

theorem slotBecameIdle_of_run (run : s.opState = .run) : slotBecameIdle s = tryHeld s := by
  unfold slotBecameIdle
  rw [run]

theorem slotBecameIdle_of_draining (draining : s.opState = .draining) :
    slotBecameIdle s = if s.allIdle = true then endDrain s .ok [] else s := by
  unfold slotBecameIdle
  rw [draining]

end Moves

/-- Settles O33: the move and what the operating state makes of it, and the trial of a held record. -/
theorem closedBundleMovesToItsQueue : Obligations.ClosedBundleMovesToItsQueue := by
  refine ⟨fun s cls working => ?_, fun s => ⟨fun h s' res run holds placed => tryHeld_of_place run holds placed,
    fun idle => idle.elim tryHeld_of_not_run tryHeld_of_free⟩⟩
  have moves : exec (.slotMove cls) s = .next (moveHead s cls) := live_of_working working (moveHead · cls)
  rw [moves]
  refine ⟨fun n rest b cause qc order closed room => ?_, fun stuck => ?_⟩
  · intro d left
    have same : left = moved s n cls d := (moved_eq order d).symm
    have moveHead : moveHead s cls = slotBecameIdle left := by
      rw [same]
      exact moveHead_of_room room order closed
    obtain ⟨opState, hold, cache⟩ := moved_same s n cls d
    rw [← same] at opState hold cache
    rw [moveHead]
    refine ⟨fun calm => congrArg Host.Outcome.next ?_, fun run => congrArg Host.Outcome.next ?_,
      fun before e after draining idle sound split waits => congrArg Host.Outcome.next ?_⟩
    · obtain quiesced | ⟨run, free⟩ | ⟨draining, m, busy⟩ := calm
      · exact slotBecameIdle_of_quiesced (opState.trans quiesced)
      · rw [slotBecameIdle_of_run (opState.trans run), tryHeld_of_free (hold.trans free)]
      · rw [slotBecameIdle_of_draining (opState.trans draining),
          if_neg fun all => busy ((allIdle_iff left).mp all m)]
    · exact slotBecameIdle_of_run (opState.trans run)
    · have one : left.replyCache.countP inProgress = 1 := by
        rw [cache, sound.progress, if_pos draining]
      rw [slotBecameIdle_of_draining (opState.trans draining), if_pos ((allIdle_iff left).mpr idle),
        endDrain_of_split (cache.trans split) waits one]
      have queue : left.controlQueue = s.controlQueue := by rw [same]; cases cls <;> rfl
      have link : left.link = s.link := by rw [same]; cases cls <;> rfl
      unfold State.lateReply
      rw [queue, link]
  · obtain empty | full := stuck
    · rw [moveHead_of_empty empty]
    · rw [moveHead_of_full full]

/-! ### The choice of a queue and the start of a new bundle (R83, R84, R86, R106) -/

section Start

variable {s : State} {cls : BundleClass}

theorem chosenClass_of_both (express : s.expressQueue ≠ []) (bulk : s.bulkQueue ≠ []) :
    s.chosenClass = if s.expressRun < s.config.expressRun.toNat then some .express else some .bulk := by
  obtain ⟨d, rest, hExpress⟩ := List.exists_cons_of_ne_nil express
  obtain ⟨d', rest', hBulk⟩ := List.exists_cons_of_ne_nil bulk
  simp only [State.chosenClass, hExpress, hBulk]

theorem chosenClass_of_bulk (express : s.expressQueue = []) (bulk : s.bulkQueue ≠ []) : s.chosenClass = some .bulk := by
  obtain ⟨d, rest, hBulk⟩ := List.exists_cons_of_ne_nil bulk
  simp only [State.chosenClass, express, hBulk]

theorem chosenClass_of_express (express : s.expressQueue ≠ []) (bulk : s.bulkQueue = []) :
    s.chosenClass = some .express := by
  obtain ⟨d, rest, hExpress⟩ := List.exists_cons_of_ne_nil express
  simp only [State.chosenClass, hExpress, bulk]

theorem chosenClass_of_none (express : s.expressQueue = []) (bulk : s.bulkQueue = []) : s.chosenClass = none := by
  simp only [State.chosenClass, express, bulk]

theorem runAfter_eq (s : State) (cls : BundleClass) :
    s.runAfter cls = if cls = .express ∧ s.bulkQueue ≠ [] then s.expressRun + 1 else 0 := by
  cases cls with
  | bulk => rfl
  | express => cases bulk : s.bulkQueue <;> simp [State.runAfter, bulk]

theorem permitted_of_room (h : s.config.paceCount = 0 ∨ s.startHistory.length < s.config.paceCount.toNat) :
    s.permitted = true :=
  (permitted_iff s).mpr (h.imp_left fun zero => by rw [zero]; rfl)

theorem startFirst_of_turn (turn : s.bundleTurn = true) (pointer : s.retransmitPtr = none) (room : s.retention.length < 8)
    (permitted : s.permitted = true) (chosen : s.chosenClass = some cls) : startFirst s = startNewBundle s cls := by
  have may : s.bundleTurn = true ∧ s.retransmitPtr = none ∧ s.retention.length < Config.retentionPlaces
      ∧ s.permitted = true := ⟨turn, pointer, room, permitted⟩
  simp only [startFirst, may, and_self, if_true, chosen]

theorem startFirst_of_refused (h : ¬ (s.bundleTurn = true ∧ s.retransmitPtr = none ∧ s.retention.length < 8
    ∧ s.permitted = true)) : startFirst s = s := if_neg h

/-- Where nothing is to be done, nothing changes, held in reset or not. -/
theorem live_of_same {f : State → State} (same : f s = s) : live s f = .next s := by
  unfold live
  rw [same, ite_self]

end Start

/-- Settles O36: the class by the queues and the run count, the start with its move. -/
theorem newBundleIsChosenAndStarts : Obligations.NewBundleIsChosenAndStarts := by
  refine ⟨fun s => ⟨chosenClass_of_none, chosenClass_of_bulk, chosenClass_of_express, fun express bulk below => ?_,
    fun express bulk past => ?_⟩, ?_⟩
  · rw [chosenClass_of_both express bulk, if_pos below]
  · rw [chosenClass_of_both express bulk, if_neg past.not_gt]
  · intro s cls d rest working idle up control events pointer room chosen queue permitted started
    have same : startedBundle s cls d rest = started := by
      unfold startedBundle
      rw [runAfter_eq]
      rfl
    have turn : s.bundleTurn = true := (bundleTurn_iff s).mpr ⟨idle, up, control, events⟩
    have starts : exec .firstTransmissionStart s = .next (moveHead started cls) := by
      rw [← same, ← startNewBundle_of_queue queue,
        ← startFirst_of_turn turn pointer room (permitted_of_room permitted) chosen]
      exact live_of_working working startFirst
    refine ⟨starts, fun empty => ?_⟩
    rw [starts, moveHead_of_empty]
    rw [← empty, ← same]
    cases cls <;> rfl

/-! ### The Pacer and the arbiter's turn (R86 to R89, R103) -/

section Pacer

variable {s : State}

theorem startRetransmission_of_refused (h : ¬ (s.bundleTurn = true ∧ s.permitted = true)) : startRetransmission s = s := by
  unfold startRetransmission
  split
  · rfl
  · exact if_neg fun may => h ⟨may.1, may.2.2⟩

theorem not_permitted_of_full (some_places : s.config.paceCount ≠ 0)
    (full : s.config.paceCount.toNat ≤ s.startHistory.length) : s.permitted ≠ true := by
  rw [ne_eq, permitted_iff]
  rintro (zero | below)
  · exact some_places (BitVec.eq_of_toNat_eq zero)
  · omega

theorem starts_of_refused (h : ¬ (s.bundleTurn = true ∧ s.permitted = true)) :
    exec .firstTransmissionStart s = .next s ∧ exec .retransmissionStart s = .next s :=
  ⟨live_of_same (startFirst_of_refused fun may => h ⟨may.1, may.2.2.2⟩),
    live_of_same (startRetransmission_of_refused h)⟩

theorem ageHistory_eq {start : PartTime} {rest : List PartTime} (history : s.startHistory = start :: rest) :
    ageHistory s = if reached s.partTime (start + s.config.paceWindow.setWidth 32) then { s with startHistory := rest }
      else s := by
  simp only [ageHistory, history]
  rfl

end Pacer

/-- Settles O37: what refuses a start, and what an ageing makes of the Start History. -/
theorem pacerHoldsBundlesBack : Obligations.PacerHoldsBundlesBack := by
  have ages (s : State) (start : PartTime) (rest : List PartTime) (working : s.held = false)
      (history : s.startHistory = start :: rest) : exec .startHistoryAgeing s = .next
        (if reached s.partTime (start + s.config.paceWindow.setWidth 32) then { s with startHistory := rest } else s) := by
    rw [← ageHistory_eq history]
    exact live_of_working working ageHistory
  refine ⟨fun s => ⟨fun refused => starts_of_refused ?_, fun refused => live_of_same (startFirst_of_refused ?_)⟩, ages,
    fun s start rest working history full due => ?_⟩
  · rintro ⟨turn, permitted⟩
    obtain ⟨idle, up, control, events⟩ := (bundleTurn_iff s).mp turn
    obtain ⟨places, full⟩ | busy | down | waiting | waiting := refused
    · exact not_permitted_of_full places full permitted
    · exact busy idle
    · exact down up
    · exact waiting control
    · exact waiting events
  · rintro ⟨_, pointer, room, _⟩
    obtain set | full := refused
    · exact set pointer
    · omega
  · have places : s.config.paceCount ≠ 0 := by
      intro zero
      rw [zero] at full
      cases full
    have length : s.startHistory.length = s.config.paceCount.toNat := by rw [history, ← full]; rfl
    obtain ⟨first, again⟩ := starts_of_refused (s := s) fun may => not_permitted_of_full places length.ge may.2
    refine ⟨first, again, { s with startHistory := rest }, ?_, rfl, (permitted_iff _).mpr (.inr ?_)⟩
    · rw [ages s start rest working history, if_pos due]
    · change rest.length < s.config.paceCount.toNat
      omega

end Sys2Proof.Machine
end

section
/-! Proofs: the frames of the trunk transmitter, the retransmission at the pointer, the stall at the retry limit and the end of a bundle transmission (R87, R97, R103 to R114, R165). -/

namespace Sys2Proof.Machine

open Safety

/-! ### A retained bundle by its position -/

section Position

variable {s : State} {l : List Retained} {i : Nat} {e : Retained}

theorem modRetained_eq_set (nodup : (l.map Retained.seq).Nodup) (at_i : l[i]? = some e) (f : Retained → Retained) :
    modRetained e.seq f l = l.set i (f e) := by
  obtain ⟨hi, eq_e⟩ := List.getElem?_eq_some_iff.mp at_i
  refine List.ext_getElem? fun j => ?_
  rw [modRetained_getElem?, List.getElem?_set]
  by_cases same : i = j
  · subst same
    simp [hi, eq_e]
  · rw [if_neg same]
    cases at_j : l[j]? with
    | none => rfl
    | some x =>
      have other : x.seq ≠ e.seq := by
        intro eq_seq
        obtain ⟨hj, eq_x⟩ := List.getElem?_eq_some_iff.mp at_j
        refine same ((List.Nodup.getElem_inj_iff nodup (hi := by simpa) (hj := by simpa)).mp ?_)
        rw [List.getElem_map, List.getElem_map, eq_e, eq_x, eq_seq]
      rw [Option.map_some, if_neg other]

theorem pointed_of_pointer (nodup : (s.retention.map Retained.seq).Nodup) (mem : e ∈ s.retention)
    (pointer : s.retransmitPtr = some e.seq) : s.pointed = some e := by
  simp only [State.pointed, pointer]
  obtain ⟨x, found⟩ := Option.isSome_iff_exists.mp
    (List.find?_isSome (p := fun x : Retained => x.seq == e.seq) |>.mpr ⟨e, mem, beq_self_eq_true _⟩)
  have seq : x.seq = e.seq := by simpa using List.find?_some found
  rw [found, eq_of_seq nodup (List.mem_of_find?_eq_some found) mem seq]

theorem oldestSeq_eq_iff (sound : RetentionSound s) (at_i : s.retention[i]? = some e) : s.oldestSeq = e.seq ↔ i = 0 := by
  cases list : s.retention with
  | nil => rw [list] at at_i; cases at_i
  | cons first rest =>
    have oldest : s.oldestSeq = first.seq := by simp only [State.oldestSeq, list]
    have head : s.retention[0]? = some first := by rw [list]; rfl
    rw [oldest]
    constructor
    · exact fun same => position_unique sound at_i head same.symm
    · rintro rfl
      rw [Option.some.inj (head.symm.trans at_i)]

end Position

/-! ### HELLO, Control Queue frames and EVENT frames (R97, R103, R104, R165) -/

section Frames

variable {s : State} {d : PartTime}

theorem expireHello_of_due (timer : s.helloTimer = .waiting d) (due : reached s.partTime d = true) :
    expireHello s = { s with helloTimer := .due } := by
  simp only [expireHello, timer, due, if_true]

theorem expireHello_of_early (timer : s.helloTimer = .waiting d) (early : reached s.partTime d = false) :
    expireHello s = s := by
  simp [expireHello, timer, early]

theorem startHello_of_refused (h : s.tx ≠ none ∨ s.link ≠ .offline ∨ s.helloTimer ≠ .due) : startHello s = s := by
  refine if_neg ?_
  rintro ⟨free, offline, due⟩
  obtain busy | up | early := h
  · exact busy free
  · exact up offline
  · exact early due

theorem linkCarries_iff (s : State) : s.linkCarries = true ↔ s.link ≠ .offline := bne_iff_ne

theorem startControl_of_turn {e : ControlEntry} {rest : List ControlEntry} (free : s.tx = none) (carries : s.link ≠ .offline)
    (queue : s.controlQueue = e :: rest) : startControl s = { s with tx := some (.control e), controlQueue := rest } := by
  simp only [startControl, queue, free, (linkCarries_iff s).mpr carries, and_self, if_true]

theorem startEvent_of_turn {r : EventRecord} {rest : List EventRecord} (free : s.tx = none) (carries : s.link ≠ .offline)
    (none_first : s.controlQueue = []) (queue : s.eventQueue = r :: rest) :
    startEvent s = { s with tx := some (.event r s.lostEvents), eventQueue := rest, lostEvents := 0 } := by
  simp only [startEvent, queue, free, none_first, (linkCarries_iff s).mpr carries, and_self, if_true]

theorem startControl_of_refused (h : ¬ (s.tx = none ∧ s.linkCarries = true)) : startControl s = s := by
  unfold startControl
  split
  · rfl
  · exact if_neg h

theorem startEvent_of_refused (h : ¬ (s.tx = none ∧ s.linkCarries = true ∧ s.controlQueue = [])) : startEvent s = s := by
  unfold startEvent
  split
  · rfl
  · exact if_neg h

theorem completeControl_of_plain {e : ControlEntry} (sends : s.tx = some (.control e)) (plain : e.awaited = false) :
    completeControl s = { s with tx := none } := by
  unfold completeControl
  rw [sends]
  exact controlEnded_of_no_reset (s := { s with tx := none }) (by rw [plain]; rfl)

end Frames

/-- Settles O38: each start by its conditions, each completion by what it frees. -/
theorem helloControlAndEventFramesAreSent : Obligations.HelloControlAndEventFramesAreSent := by
  refine ⟨fun s working => ⟨fun free offline due => ?_, fun refused => live_of_same (startHello_of_refused refused),
      fun h sends => ?_, fun d timer due => ?_, fun d timer early => live_of_same (expireHello_of_early timer early)⟩,
    fun s working => ⟨fun e rest free carries queue => ?_, fun r rest free carries none_first queue => ?_,
      fun refused => ?_, fun waiting => ?_, fun e sends plain => ?_, fun r lost sends => ?_⟩⟩
  · have started := live_of_working working startHello
    have conditions : s.tx = none ∧ s.link = .offline ∧ s.helloTimer = .due := ⟨free, offline, due⟩
    rw [startHello, if_pos conditions] at started
    exact started
  · have completed := live_of_working working completeHello
    rw [completeHello, sends] at completed
    exact completed
  · have expired := live_of_working working expireHello
    rw [expireHello_of_due timer due] at expired
    exact expired
  · have started := live_of_working working startControl
    rw [startControl_of_turn free carries queue] at started
    exact started
  · have started := live_of_working working startEvent
    rw [startEvent_of_turn free carries none_first queue] at started
    exact started
  · have shut : ¬ (s.tx = none ∧ s.linkCarries = true) := by
      rw [linkCarries_iff]
      rintro ⟨free, carries⟩
      exact refused.elim (· free) carries
    exact ⟨live_of_same (startControl_of_refused shut),
      live_of_same (startEvent_of_refused fun may => shut ⟨may.1, may.2.1⟩)⟩
  · exact live_of_same (startEvent_of_refused fun may => waiting may.2.2)
  · have completed := live_of_working working completeControl
    rw [completeControl_of_plain sends plain] at completed
    exact completed
  · have completed := live_of_working working completeEvent
    rw [completeEvent, sends] at completed
    exact completed

/-! ### The retransmission, the stall and the end of a bundle transmission (R107 to R114) -/

section Retransmission

variable {s : State} {i : Nat} {e : Retained} {d : PartTime}

theorem startRetransmission_of_turn (sound : RetentionSound s) (turn : s.bundleTurn = true) (at_i : s.retention[i]? = some e)
    (pointer : s.retransmitPtr = some e.seq) (below : e.retry < s.config.retryLimit.toNat) (permitted : s.permitted = true) :
    startRetransmission s =
      { s with
        tx := some (.bundle ⟨e.desc, e.seq, e.retry + 1, true⟩)
        retention := s.retention.set i { e with retry := e.retry + 1 }
        ackTimer := if i = 0 then none else s.ackTimer
        retransmitPtr := s.retention[i + 1]?.map Retained.seq
        startHistory := s.recordedStarts
        trunk := { s.trunk with retransmissions := bump s.trunk.retransmissions } } := by
  have nodup := seqs_nodup sound
  simp only [startRetransmission, pointed_of_pointer nodup (List.mem_of_getElem? at_i) pointer, turn, below, permitted,
    and_self, if_true, nextAfter_eq nodup at_i, modRetained_eq_set nodup at_i, oldestSeq_eq_iff sound at_i]

theorem startRetransmission_of_limit (limit : ∀ e, s.pointed = some e → s.config.retryLimit.toNat ≤ e.retry) :
    startRetransmission s = s := by
  unfold startRetransmission
  split
  · rfl
  · rename_i e pointed
    exact if_neg fun may => (limit e pointed).not_gt may.2.1

theorem retryCheck_of_limit (pointed : s.pointed = some e) (turn : s.bundleTurn = true)
    (limit : s.config.retryLimit.toNat ≤ e.retry) : retryCheck s = stall s := by
  simp only [retryCheck, pointed, turn, limit, and_self, if_true]

theorem retryCheck_of_below (below : ∀ e, s.pointed = some e → e.retry < s.config.retryLimit.toNat) : retryCheck s = s := by
  unfold retryCheck
  split
  · rfl
  · rename_i e pointed
    exact if_neg fun may => (below e pointed).not_ge may.2

theorem expireAck_of_due {newer : List Retained} (list : s.retention = e :: newer) (timer : s.ackTimer = some d)
    (due : reached s.partTime d = true) :
    expireAck s = if s.config.retryLimit.toNat ≤ e.retry then stall s
      else { s with retransmitPtr := some e.seq, ackTimer := none } := by
  simp only [expireAck, list, timer, due, if_true]

theorem expireAck_of_early (early : ∀ d, s.ackTimer = some d → reached s.partTime d = false) : expireAck s = s := by
  unfold expireAck
  split
  · rename_i d e rest timer list
    rw [early d timer]
    rfl
  · rfl

theorem completeBundle_of_retained (sound : RetentionSound s) {f : BundleTx} (sends : s.tx = some (.bundle f))
    (hold : s.releasedHold = none) (at_i : s.retention[i]? = some e) (same : e.seq = f.seq) :
    completeBundle s =
      { s with
        tx := none
        retention := s.retention.set i { e with completed := true }
        ackTimer := if s.link = .up ∧ i = 0 then some s.ackDeadline else s.ackTimer } := by
  have some_retained : s.retention ≠ [] := List.ne_nil_of_mem (List.mem_of_getElem? at_i)
  simp [completeBundle, sends, hold, ← same, modRetained_eq_set (seqs_nodup sound) at_i, oldestSeq_eq_iff sound at_i,
    some_retained]

theorem completeBundle_of_held {f : BundleTx} {chain : List BlockNo} (sends : s.tx = some (.bundle f))
    (hold : s.releasedHold = some chain) :
    completeBundle s = tryHeld (returnChain { s with tx := none, releasedHold := none } chain) := by
  simp only [completeBundle, sends, hold, Option.isSome_some, if_true, returnHold, giveBack]

end Retransmission

/-- Settles O39: the bundle at the pointer by its position in the Retention List. -/
theorem retransmissionStarts : Obligations.RetransmissionStarts := by
  intro s i e working sound free up control events at_i pointer
  have turn : s.bundleTurn = true := (bundleTurn_iff s).mpr ⟨free, up, control, events⟩
  constructor
  · intro below room
    have started := live_of_working working startRetransmission
    rw [startRetransmission_of_turn sound turn at_i pointer below (permitted_of_room room)] at started
    exact started
  · intro limit
    refine live_of_same (startRetransmission_of_limit fun x pointed => ?_)
    cases pointed.symm.trans (pointed_of_pointer (seqs_nodup sound) (List.mem_of_getElem? at_i) pointer)
    exact limit

/-- Settles O40: the retry check by the bundle at the pointer, the expiry by the oldest bundle. -/
theorem linkStallsAtRetryLimit : Obligations.LinkStallsAtRetryLimit := by
  intro s oldest newer working list stalled
  have stall_stalled : stall s = stalled := by simp only [stall_eq, list, stopped, stalled]
  refine ⟨fun e pointed turn limit => ?_, fun e pointed below => ?_, fun clear => ?_, fun d timer due limit => ?_,
    fun d timer due below => ?_, fun d timer early => ?_, fun stopped => ?_⟩
  · rw [← stall_stalled, ← retryCheck_of_limit pointed turn limit]
    exact live_of_working working retryCheck
  · refine live_of_same (retryCheck_of_below fun x pointed' => ?_)
    cases pointed.symm.trans pointed'
    exact below
  · refine live_of_same (retryCheck_of_below fun x pointed => ?_)
    simp [State.pointed, clear] at pointed
  · have expired := live_of_working working expireAck
    rw [expireAck_of_due list timer due, if_pos limit, stall_stalled] at expired
    exact expired
  · have expired := live_of_working working expireAck
    rw [expireAck_of_due list timer due, if_neg below.not_ge] at expired
    exact expired
  · refine live_of_same (expireAck_of_early fun x timer' => ?_)
    cases timer.symm.trans timer'
    exact early
  · refine live_of_same (expireAck_of_early fun x timer => ?_)
    cases stopped.symm.trans timer

/-- Settles O41: a bundle still retained, and one whose chain is in the released-bundle hold. -/
theorem bundleTransmissionCompletes : Obligations.BundleTransmissionCompletes := by
  intro s f working sends
  constructor
  · intro i e sound hold at_i same
    have completed := live_of_working working completeBundle
    rw [completeBundle_of_retained sound sends hold at_i same] at completed
    exact completed
  · intro chain hold
    have completed := live_of_working working completeBundle
    rw [completeBundle_of_held sends hold] at completed
    exact completed

end Sys2Proof.Machine
end

section
/-! Proofs: a change of carrier, and the bundles an acknowledgement releases (R96, R97, R107 to R113). -/

namespace Sys2Proof.Machine

open Safety

/-! ### A chain given back where no held record is tried again (R59, R72) -/

section Calm

variable {s : State}

/-- The return of a chain triggers no trial of a held record (R59). -/
def State.calm (s : State) : Prop := s.opState ≠ .run ∨ s.hold = none

theorem giveBack_of_calm (h : s.calm) (chain : List BlockNo) : giveBack s chain = returnChain s chain := by
  obtain other | free := h
  · exact giveBack_of_not_run other chain
  · exact tryHeld_of_free ((returnChain_reach s chain).hold.trans free)

theorem returnChain_freeList (s : State) (chain : List BlockNo) : (returnChain s chain).freeList = s.freeList ++ chain := by
  unfold returnChain rearmPool
  split <;> rfl

theorem returnChain_eventQueue (s : State) (chain : List BlockNo) : (returnChain s chain).eventQueue = s.eventQueue := by
  unfold returnChain rearmPool
  split <;> rfl

theorem giveBack_calm (h : s.calm) (chain : List BlockNo) : (giveBack s chain).calm := by
  rw [giveBack_of_calm h]
  have same := returnChain_reach s chain
  obtain other | free := h
  · exact .inl (by rwa [same.opState])
  · exact .inr (by rwa [same.hold])

end Calm

/-! ### Carrier (R96, R97) -/

section Carrier

variable {s u : State}

/-- What the loss of carrier leaves once the transmission in progress has been aborted (R96). -/
def State.unlinked (s : State) : State :=
  { s with
    carrier := false, tx := none, ackTimer := none, retransmitPtr := none
    controlQueue := s.controlQueue.filter fun e => !e.isSyncAck
    link := .offline, helloTimer := .stopped
    trunk := { s.trunk with carrierLosses := bump s.trunk.carrierLosses } }

theorem linkDown_of_aborted (aborted : abortTransmission s = u) (free : u.tx = none) : linkDown s = u.unlinked := by
  simp only [linkDown, aborted, State.unlinked, free]

theorem abortTransmission_of_plain (h : s.tx = none ∨ (∃ h, s.tx = some (.hello h)) ∨ (∃ e, s.tx = some (.control e))
    ∨ ∃ f, s.tx = some (.bundle f) ∧ s.releasedHold = none) : abortTransmission s = { s with tx := none } := by
  obtain free | ⟨_, sends⟩ | ⟨_, sends⟩ | ⟨_, sends, hold⟩ := h
  · simp only [abortTransmission, free]
    rw [← free]
  all_goals simp only [abortTransmission, sends]
  simp only [returnHold, hold]

theorem abortTransmission_of_hold {f : BundleTx} {chain : List BlockNo} (sends : s.tx = some (.bundle f))
    (hold : s.releasedHold = some chain) :
    abortTransmission s = giveBack { s with tx := none, releasedHold := none } chain := by
  simp only [abortTransmission, sends, returnHold, hold]

/-- The losses of an aborted EVENT frame and the event itself (R104, R166). -/
theorem raiseLost_frame (c n : Word16) :
    raiseLost c (n.toNat + 1) = if c.toNat + n.toNat + 1 ≤ 65535 then c + n + 1 else 65535 := by
  rw [raiseLost, ← Nat.add_assoc]
  split
  · bv_omega
  · rfl

theorem exec_carrierLoss_of_no_reset (working : s.held = false) (carrier : s.carrier = true)
    (no_reset : s.awaitedStarted = false) : exec .carrierLoss s = .next (linkDown s) := by
  rw [exec_carrierLoss_of_working working carrier, loseCarrier_of_no_reset (by rw [no_reset]; rfl)]

theorem awaitedStarted_of_other (h : ∀ e, s.tx ≠ some (.control e)) : s.awaitedStarted = false := by
  unfold State.awaitedStarted
  split
  · rename_i e sends
    exact absurd sends (h e)
  · rfl

end Carrier

/-- Settles O42: the abort by what is in transmission, then the steps of R96. -/
theorem carrierChangesTheLink : Obligations.CarrierChangesTheLink := by
  intro s working lost
  refine ⟨fun carrier sending => ?_, fun r n carrier sends => ?_, fun f chain carrier sends hold => ?_,
    fun absent offline => ?_, fun absent => ?_, fun carrier => ?_⟩
  · have no_reset : s.awaitedStarted = false := by
      obtain free | ⟨h, sends⟩ | ⟨e, sends, plain⟩ | ⟨f, sends, _⟩ := sending
      · exact awaitedStarted_of_other (by rw [free]; nofun)
      · exact awaitedStarted_of_other (by rw [sends]; nofun)
      · rwa [State.awaitedStarted_of_control sends]
      · exact awaitedStarted_of_other (by rw [sends]; nofun)
    have plain := abortTransmission_of_plain
      (sending.imp_right (Or.imp_right (Or.imp_left fun ⟨e, sends, _⟩ => ⟨e, sends⟩)))
    rw [exec_carrierLoss_of_no_reset working carrier no_reset, linkDown_of_aborted plain rfl]
    rfl
  · have aborted : abortTransmission s = { s with
        tx := none, lostEvents := raiseLost s.lostEvents (n.toNat + 1)
        mgmt := { s.mgmt with eventsLost := bump s.mgmt.eventsLost } } := by
      simp only [abortTransmission, sends]
    rw [exec_carrierLoss_of_no_reset working carrier (awaitedStarted_of_other (by rw [sends]; nofun)),
      linkDown_of_aborted aborted rfl, raiseLost_frame]
    rfl
  · intro u
    have reach : TrialReach { s with tx := none, releasedHold := none } u := giveBack_reach _ chain
    have free : u.tx = none := (congrArg State.tx reach :)
    have empty : u.releasedHold = none := (congrArg State.releasedHold reach :)
    have queue : u.controlQueue = s.controlQueue := (congrArg State.controlQueue reach :)
    have trunk : u.trunk = s.trunk := (congrArg State.trunk reach :)
    have down : linkDown s = u.unlinked := linkDown_of_aborted (abortTransmission_of_hold sends hold) free
    refine ⟨?_, (congrArg State.retention reach :), (congrArg State.expressQueue reach :),
      (congrArg State.bulkQueue reach :), (congrArg State.expressRun reach :), (congrArg State.startHistory reach :),
      fun calm => ?_⟩
    · rw [exec_carrierLoss_of_no_reset working carrier (awaitedStarted_of_other (by rw [sends]; nofun)), down]
      simp only [State.unlinked, queue, trunk, empty]
    · have returned : u = returnChain { s with tx := none, releasedHold := none } chain :=
        giveBack_of_calm (s := { s with tx := none, releasedHold := none }) calm chain
      rw [returned]
      exact ⟨returnChain_freeList _ _, returnChain_eventQueue _ _, returnChain_slots _ _⟩
  · have gained : exec .carrierGain s
        = .next (if s.carrier then s else if s.held then { s with carrier := true } else gainCarrier s) := rfl
    rw [gained, absent, working]
    simp [gainCarrier, offline]
  · have kept : exec .carrierLoss s
        = .next (if !s.carrier then s else if s.held then { s with carrier := false } else loseCarrier s) := rfl
    rw [kept, absent]
    rfl
  · have kept : exec .carrierGain s
        = .next (if s.carrier then s else if s.held then { s with carrier := true } else gainCarrier s) := rfl
    rw [kept, carrier]
    rfl

/-! ### The removal of the oldest retained bundles (R111) -/

section Removal

variable {s : State}

theorem beingSent_of_hold {chain : List BlockNo} (hold : s.releasedHold = some chain) (seq : Word16) :
    s.beingSent seq = false := by
  unfold State.beingSent
  split
  · rw [hold]
    exact Bool.and_false _
  · rfl

/-- At most one retained bundle is being transmitted. -/
theorem beingSent_unique {seq seq' : Word16} (sent : s.beingSent seq = true) (other : seq ≠ seq') :
    s.beingSent seq' = false := by
  rw [Bool.eq_false_iff]
  intro sent'
  obtain ⟨f, sends, same, _⟩ := (beingSent_iff s seq).mp sent
  obtain ⟨f', sends', same', _⟩ := (beingSent_iff s seq').mp sent'
  cases sends.symm.trans sends'
  exact other (same.symm.trans same')

theorem beingSent_congr {t : State} (tx : t.tx = s.tx) (hold : t.releasedHold = s.releasedHold) (seq : Word16) :
    t.beingSent seq = s.beingSent seq := by
  unfold State.beingSent
  rw [tx, hold]

/-- The chain removals leave in the released-bundle hold: that of the bundle in transmission, if it is among the removed. -/
theorem removeOldest_releasedHold (k : Nat) (s : State) :
    (removeOldest k s).releasedHold = match (s.retention.take k).find? fun x => s.beingSent x.seq with
      | some x => some x.desc.chain
      | none => s.releasedHold := by
  induction k generalizing s with
  | zero => rfl
  | succ k ih =>
    unfold removeOldest
    split
    · rename_i empty
      rw [empty]
      rfl
    · rename_i e rest list
      rw [list, List.take_succ_cons, List.find?_cons]
      dsimp only
      cases sent : s.beingSent e.seq with
      | true =>
        rw [if_pos rfl, ih]
        simp only [beingSent_of_hold (s := { s with retention := rest, releasedHold := some e.desc.chain }) rfl,
          List.find?_eq_none.mpr fun _ _ => Bool.false_ne_true]
      | false =>
        rw [if_neg Bool.false_ne_true, ih, giveBack_retention,
          giveBack_releasedHold]
        have same (x : Retained) : (giveBack { s with retention := rest } e.desc.chain).beingSent x.seq = s.beingSent x.seq :=
          beingSent_congr (giveBack_tx _ _) (giveBack_releasedHold _ _) x.seq
        simp only [same]

/-- The chains removals return, oldest first, where no trial follows a return (R72, R111). -/
theorem removeOldest_freeList (k : Nat) (nodup : (s.retention.map Retained.seq).Nodup) (calm : s.calm) :
    (removeOldest k s).freeList
      = s.freeList ++ ((s.retention.take k).filter fun x => !s.beingSent x.seq).flatMap fun x => x.desc.chain := by
  induction k generalizing s with
  | zero => exact (List.append_nil _).symm
  | succ k ih =>
    unfold removeOldest
    split
    · rename_i empty
      rw [empty]
      exact (List.append_nil _).symm
    · rename_i e rest list
      rw [list, List.map_cons] at nodup
      obtain ⟨fresh, restNodup⟩ := List.nodup_cons.mp nodup
      rw [list, List.take_succ_cons]
      dsimp only
      cases sent : s.beingSent e.seq with
      | true =>
        have unsent : ∀ x ∈ rest.take k, (!s.beingSent x.seq) = true := fun x mem => by
          rw [beingSent_unique sent fun same => fresh (same ▸ List.mem_map_of_mem (List.mem_of_mem_take mem))]
          rfl
        rw [if_pos rfl,
          ih (s := { s with retention := rest, releasedHold := some e.desc.chain }) restNodup calm]
        rw [List.filter_cons_of_neg (by rw [sent]; nofun), List.filter_eq_self.mpr unsent]
        simp only [beingSent_of_hold (s := { s with retention := rest, releasedHold := some e.desc.chain }) rfl,
          Bool.not_false, List.filter_true]
      | false =>
        have calm' : ({ s with retention := rest } : State).calm := calm
        rw [if_neg Bool.false_ne_true,
          ih (by rw [giveBack_retention]; exact restNodup) (giveBack_calm calm' _), giveBack_retention,
          giveBack_of_calm calm', returnChain_freeList, List.filter_cons_of_pos (by rw [sent]; rfl), List.flatMap_cons,
          ← List.append_assoc, ← giveBack_of_calm calm']
        have same (x : Retained) : (giveBack { s with retention := rest } e.desc.chain).beingSent x.seq = s.beingSent x.seq :=
          beingSent_congr (giveBack_tx _ _) (giveBack_releasedHold _ _) x.seq
        simp only [same]

/-- A bundle still retained after removals is being transmitted as it was before. -/
theorem removeOldest_beingSent (k : Nat) (nodup : (s.retention.map Retained.seq).Nodup) {x : Retained}
    (kept : x ∈ s.retention.drop k) : (removeOldest k s).beingSent x.seq = s.beingSent x.seq := by
  obtain ⟨_, _, _, tx⟩ := removeOldest_same k s
  cases found : (s.retention.take k).find? fun x => s.beingSent x.seq with
  | none => exact beingSent_congr tx (by rw [removeOldest_releasedHold, found]) x.seq
  | some y =>
    have sent : s.beingSent y.seq = true := List.find?_some (p := fun x : Retained => s.beingSent x.seq) found
    have apart : y.seq ≠ x.seq := by
      rw [← List.take_append_drop k s.retention, List.map_append, List.nodup_append] at nodup
      exact nodup.2.2 _ (List.mem_map_of_mem (List.mem_of_find?_eq_some found)) _ (List.mem_map_of_mem kept)
    rw [beingSent_unique sent apart]
    exact beingSent_of_hold (chain := y.desc.chain) (by rw [removeOldest_releasedHold, found]) _

theorem retainedIndex_of_position (sound : RetentionSound s) {i : Nat} {e : Retained} (at_i : s.retention[i]? = some e) :
    s.retainedIndex e.seq = some i := by
  obtain ⟨inside, _⟩ := List.getElem?_eq_some_iff.mp at_i
  have places := sound.places
  simp only [Config.retentionPlaces] at places
  cases list : s.retention with
  | nil => rw [list] at at_i; cases at_i
  | cons oldest rest =>
    have head : s.retention[0]? = some oldest := by rw [list]; rfl
    have offset : (e.seq - oldest.seq).toNat = i := by
      rw [retained_seq_eq sound head at_i, add_sub_cancel_left, BitVec.toNat_ofNat, Nat.mod_eq_of_lt (by omega)]
    simp only [State.retainedIndex, list, offset]
    exact if_pos (by rwa [list] at inside)

theorem takeAck_eq {n : Word16} {k : Nat} (found : s.retainedIndex n = some k) :
    takeAck s n =
      { removeOldest (k + 1) s with
        retransmitPtr := (removeOldest (k + 1) s).movedPointer
        ackTimer := (removeOldest (k + 1) s).followOldest
        trunk := { (removeOldest (k + 1) s).trunk with acks := bump (removeOldest (k + 1) s).trunk.acks } } := by
  simp only [takeAck, found]

theorem takeNak_eq {n : Word16} {k : Nat} (found : s.retainedIndex n = some k) :
    takeNak s n =
      { removeOldest k s with
        retransmitPtr := some n, ackTimer := none
        trunk := { (removeOldest k s).trunk with naks := bump (removeOldest k s).trunk.naks } } := by
  simp only [takeNak, found]

theorem removeOldest_trunk (k : Nat) (s : State) : (removeOldest k s).trunk = s.trunk :=
  (congrArg State.trunk (removeOldest_reach k s) :)

theorem removeOldest_movedPointer (k : Nat) (s : State) :
    (removeOldest k s).movedPointer = match s.retransmitPtr with
      | none => none
      | some p => if (s.retention.drop k).any (fun x => x.seq == p) then some p
        else (s.retention.drop k).head?.map Retained.seq := by
  obtain ⟨_, pointer, _⟩ := removeOldest_same k s
  unfold State.movedPointer
  rw [pointer, removeOldest_retention]
  cases s.retransmitPtr with
  | none => rfl
  | some p => cases s.retention.drop k <;> rfl

theorem removeOldest_followOldest (k : Nat) (nodup : (s.retention.map Retained.seq).Nodup) :
    (removeOldest k s).followOldest = match s.retention.drop k with
      | [] => none
      | x :: _ => if s.link = .up ∧ x.completed = true ∧ s.beingSent x.seq = false then some s.ackDeadline else none := by
  obtain ⟨_, _, link, _⟩ := removeOldest_same k s
  have deadline : (removeOldest k s).ackDeadline = s.ackDeadline := by
    have reach := removeOldest_reach k s
    have time : (removeOldest k s).partTime = s.partTime := (congrArg State.partTime reach :)
    have config : (removeOldest k s).config = s.config := (congrArg State.config reach :)
    rw [State.ackDeadline, time, config]
    rfl
  unfold State.followOldest
  rw [removeOldest_retention, link, deadline]
  cases left : s.retention.drop k with
  | nil => rfl
  | cons x newer =>
    dsimp only
    rw [removeOldest_beingSent k nodup (x := x) (by rw [left]; exact List.mem_cons_self)]

end Removal

/-- Settles O44: what the removals leave, then the pointer, the ack timer and the counter. -/
theorem acknowledgementReleasesBundles : Obligations.AcknowledgementReleasesBundles := by
  intro s i e receives sound sending at_i kept sent returned common
  have found := retainedIndex_of_position sound at_i
  have nodup := seqs_nodup sound
  have removed (k : Nat) : common k (removeOldest k s) := by
    have reach := removeOldest_reach k s
    obtain ⟨next, _, link, tx⟩ := removeOldest_same k s
    exact ⟨removeOldest_retention k s, link, tx, next, (congrArg State.controlQueue reach :),
      (congrArg State.expressQueue reach :), (congrArg State.bulkQueue reach :), removeOldest_releasedHold k s,
      removeOldest_freeList k nodup⟩
  refine ⟨⟨_, (exec_bundleAck_of_receives receives e.seq).trans (congrArg _ (takeAck_eq found)), removed (i + 1), ?_, ?_, ?_⟩,
    ⟨_, (exec_bundleNak_of_receives receives e.seq).trans (congrArg _ (takeNak_eq found)), removed i, ?_, rfl, rfl⟩⟩
  · dsimp only
    rw [removeOldest_trunk]
  · exact removeOldest_movedPointer (i + 1) s
  · exact removeOldest_followOldest (i + 1) nodup
  · dsimp only
    rw [removeOldest_trunk]

end Sys2Proof.Machine
end

section
/-! Proofs: the answers to a refused DISPATCH, and what an admitted one queues, counts and reports (R119 to R125). -/

namespace Sys2Proof.Machine

open Safety

/-! ### The sequence, the entry check and the room check (R121 to R123) -/

section Checks

variable {s : State} {seq : Word16} {es : List DispatchEntry}

theorem exec_dispatch_of_receives (h : Receives s) (well : dispatchLengthRule es = true) :
    exec (.dispatch seq es) s = .next (takeDispatch s seq es) := by
  have ⟨working, _⟩ := h
  refine (live_of_working working fun s =>
    if dispatchLengthRule es then received s fun s => takeDispatch s seq es else countBadLength s).trans ?_
  rw [if_pos well, received_of_receives h]

theorem seqCase_behind {reference : Word16} (far : 32768 ≤ (seq - reference).toNat) : seqCase reference seq = .behind := by
  simp only [seqCase]
  rw [if_neg (by omega), if_neg (by omega)]

theorem seqCase_ahead {reference : Word16} (some_ahead : 1 ≤ (seq - reference).toNat)
    (near : (seq - reference).toNat ≤ 32767) : seqCase reference seq = .ahead := by
  simp only [seqCase]
  rw [if_neg (by omega), if_pos near]

theorem seqCase_equal {reference : Word16} (same : (seq - reference).toNat = 0) : seqCase reference seq = .equal := by
  simp only [seqCase]
  rw [if_pos same]

theorem entryFails_iff (e : DispatchEntry) :
    entryFails e = true ↔ 3 < e.port.toNat ∨ e.node = 0 ∨ e.node = 255 ∨ e.chanFlags.getLsbD 3 = true := by
  simp only [entryFails, Bool.or_eq_true, decide_eq_true_eq, beq_iff_eq, or_assoc]
  exact Iff.rfl

theorem firstFailing_eq_some {i : Nat} {e : DispatchEntry} (at_i : es[i]? = some e) (fails : entryFails e = true)
    (before : ∀ j < i, ∀ e', es[j]? = some e' → ¬ entryFails e' = true) : firstFailing es = some i := by
  obtain ⟨hi, rfl⟩ := List.getElem?_eq_some_iff.mp at_i
  exact List.findIdx?_eq_some_iff_getElem.mpr ⟨hi, fails, fun j lt =>
    before j lt _ (List.getElem?_eq_getElem (lt.trans hi))⟩

theorem firstFailing_eq_none (h : ∀ e ∈ es, ¬ entryFails e = true) : firstFailing es = none :=
  List.findIdx?_eq_none_iff.mpr fun e mem => Bool.eq_false_iff.mpr (h e mem)

/-- An entry that passes the entry check names its port. -/
theorem entryPort_eq_iff {e : DispatchEntry} (port : e.port.toNat ≤ 3) (p : PortNo) :
    entryPort e = p ↔ e.port.toNat = p.val := by
  rw [Fin.ext_iff]
  exact (congrArg (· = p.val) (Nat.mod_eq_of_lt (Nat.lt_succ_of_le port))).to_iff

/-- What port `p` takes of an entry that passes the entry check. -/
theorem takes_eq {e : DispatchEntry} (port : e.port.toNat ≤ 3) (p : PortNo) :
    decide (entryPort e = p ∧ s.ports[p].takes e = true)
      = (e.port.toNat = p.val && s.ports[p].enabled && decide (e.payload.length ≤ s.ports[p].maxLen.toNat)) := by
  rw [Bool.decide_and, Bool.decide_eq_true, Port.takes, Bool.and_assoc]
  exact congrArg (· && _) (decide_eq_decide.mpr (entryPort_eq_iff port p))

end Checks

/-- Settles O48: the sequence, the entry check and the room check choose the answer. -/
theorem refusedDispatchIsAnswered : Obligations.RefusedDispatchIsAnswered := by
  intro s seq es receives well room c ahead answered fails
  have taken := exec_dispatch_of_receives (seq := seq) receives well
  refine ⟨fun full => ?_, fun free => ?_⟩
  · rw [taken, takeDispatch_of_full (Bool.eq_false_iff.mpr fun room => ?_)]
    exact absurd ((controlRoom_iff s).mp room) (Nat.not_le_of_lt full)
  · have answer := taken.trans (congrArg Host.Outcome.next (takeDispatch_of_room (controlRoom_of_le free) seq es))
    have equal (h : ahead = 0) : exec (.dispatch seq es) s = .next (takeExpected s seq es) := by
      rw [answer, seqCase_equal h]
    refine ⟨fun far => ?_, fun some_ahead near => ?_, fun i e same at_i fail before => ?_, fun same pass short => ?_⟩
    · rw [seqCase_behind far] at answer
      exact answer
    · rw [seqCase_ahead some_ahead near] at answer
      exact answer
    · have first : firstFailing es = some i := firstFailing_eq_some at_i ((entryFails_iff e).mpr fail)
        fun j lt e' at_j fail' => before j lt e' at_j ((entryFails_iff e').mp fail')
      have refused := equal same
      rw [takeExpected, first] at refused
      exact refused
    · have passes : ∀ e ∈ es, ¬ entryFails e = true := fun e mem fail => pass e mem ((entryFails_iff e).mp fail)
      have full : ¬ roomFor s es = true := by
        rw [roomFor_iff]
        intro fits
        obtain ⟨p, short⟩ := short
        refine (fits p).not_gt (short.trans_eq ?_)
        rw [queuedFor_eq]
        refine List.countP_congr fun e mem => ?_
        rw [takes_eq (Nat.le_of_not_lt fun high => pass e mem (.inl high))]
      have refused := equal same
      simp only [takeExpected, firstFailing_eq_none passes] at refused
      rw [if_neg full] at refused
      exact refused

/-! ### The entries of an admitted frame: what is dropped, counted and reported (R124) -/

/-- The port of an entry is disabled (R124 (2)). -/
def State.portOff (s : State) (e : DispatchEntry) : Bool := !s.ports[entryPort e].enabled

/-- The payload of an entry is above the maximum of its enabled port (R124 (3)). -/
def State.tooLong (s : State) (e : DispatchEntry) : Bool :=
  s.ports[entryPort e].enabled && decide (s.ports[entryPort e].maxLen.toNat < e.payload.length)

/-- The UNDELIVERED event of an entry at its index in the frame. -/
def State.undeliveredEvent (s : State) (seq : Word16) (x : DispatchEntry × Nat) : Event :=
  .undelivered (entryPort x.1) x.1.node (x.1.chanFlags.extractLsb' 4 4) seq x.2 (if s.portOff x.1 then .portOff else .length)

/-- An entry is dropped, and its drop reported. -/
def State.reportsDrop (s : State) (e : DispatchEntry) : Bool := (s.portOff e || s.tooLong e) && e.chanFlags.getLsbD 2

/-- The UNDELIVERED events of the dropped entries, in frame order from an index on. -/
def State.undeliveredEvents (s : State) (seq : Word16) (index : Nat) (es : List DispatchEntry) : List Event :=
  ((es.zipIdx index).filter fun x => s.reportsDrop x.1).map (s.undeliveredEvent seq)

/-- The drops counted by cause (R124). -/
def DispatchCounters.dropped (c : DispatchCounters) (off long : Nat) : DispatchCounters :=
  { c with portOffDiscards := bumpBy c.portOffDiscards off, lengthDiscards := bumpBy c.lengthDiscards long }

/-- `s` with other ports and DISPATCH counters: nothing the Event Unit looks at. -/
def State.dispatched (s : State) (ports : Vector Port 4) (counters : DispatchCounters) : State :=
  { s with ports := ports, dispatchCounters := counters }

section Admission

variable {s : State} {seq : Word16}

theorem raise_dispatched (s : State) (ports : Vector Port 4) (counters : DispatchCounters) (e : Event) :
    raise (s.dispatched ports counters) e = (raise s e).dispatched ports counters := by
  unfold raise
  split
  · exact (if_pos ‹_›).symm ▸ rfl
  · rename_i enabled
    rw [if_neg (show ¬ (!s.config.enables e) = true from enabled)]
    split
    · rw [if_pos (show s.eventQueue.length < Config.eventPlaces from ‹_›)]
      rfl
    · rw [if_neg (show ¬ s.eventQueue.length < Config.eventPlaces from ‹_›)]
      rfl

theorem foldl_raise_dispatched (events : List Event) (s : State) (ports : Vector Port 4) (counters : DispatchCounters) :
    events.foldl raise (s.dispatched ports counters) = (events.foldl raise s).dispatched ports counters := by
  induction events generalizing s with
  | nil => rfl
  | cons e events ih => rw [List.foldl_cons, List.foldl_cons, raise_dispatched, ih]

theorem foldl_raise_reach (events : List Event) (s : State) : EventReach s (events.foldl raise s) := by
  induction events generalizing s with
  | nil => exact .refl s
  | cons e events ih => exact (raise_reach s e).trans (ih _)

theorem admitEntry_portOff (s : State) (index : Nat) (e e' : DispatchEntry) :
    (admitEntry s seq index e).portOff e' = s.portOff e' ∧ (admitEntry s seq index e).tooLong e' = s.tooLong e' := by
  have reach : QueueReach s.ports[entryPort e'] (admitEntry s seq index e).ports[entryPort e'] := by
    rw [admitEntry_port, Port.admitOne]
    split
    · exact enqueue_reach _ _
    · rfl
  have enabled := congrArg Port.enabled reach
  have maxLen := congrArg Port.maxLen reach
  simp only [State.portOff, State.tooLong]
  rw [enabled, maxLen]
  exact ⟨rfl, rfl⟩

theorem bumpBy_add (c : Counter) (m n : Nat) : bumpBy (bumpBy c m) n = bumpBy c (m + n) := by
  induction m generalizing c with
  | zero => rw [Nat.zero_add]; rfl
  | succ m ih => rw [Nat.succ_add]; exact ih (bump c)

theorem undeliveredEvents_cons (s : State) (seq : Word16) (index : Nat) (e : DispatchEntry) (es : List DispatchEntry) :
    s.undeliveredEvents seq index (e :: es)
      = (if s.reportsDrop e = true then [s.undeliveredEvent seq (e, index)] else [])
        ++ s.undeliveredEvents seq (index + 1) es := by
  rw [State.undeliveredEvents, List.zipIdx_cons, List.filter_cons]
  dsimp only
  split <;> rfl

/-- What one entry reports (R124). -/
def State.reportOf (s : State) (seq : Word16) (index : Nat) (e : DispatchEntry) : State :=
  if s.reportsDrop e = true then raise s (s.undeliveredEvent seq (e, index)) else s

/-- The report of a dropped entry, whatever has been counted. -/
theorem reportUndelivered_eq (s : State) (seq : Word16) (index : Nat) {e : DispatchEntry} (counters : DispatchCounters)
    {reason : UndeliveredReason} (drops : (s.portOff e || s.tooLong e) = true)
    (named : (if s.portOff e = true then .portOff else .length) = reason) :
    reportUndelivered { s with dispatchCounters := counters } (entryPort e) (txRecordOf seq index e) reason
      = (s.reportOf seq index e).dispatched s.ports counters := by
  have confirms : s.reportsDrop e = (txRecordOf seq index e).confirm := by
    rw [State.reportsDrop, drops, Bool.true_and]
    rfl
  unfold reportUndelivered State.reportOf
  rw [confirms, ← named]
  split
  · exact raise_dispatched s s.ports counters _
  · rfl

theorem disposition_of_off {e : DispatchEntry} (off : s.portOff e = true) : disposition s e = .portOff := if_pos off

theorem disposition_of_long {e : DispatchEntry} (long : s.tooLong e = true) : disposition s e = .length := by
  rw [State.tooLong, Bool.and_eq_true, decide_eq_true_eq] at long
  rw [disposition]
  exact (if_neg (by rw [long.1]; nofun)).trans (if_pos long.2)

theorem disposition_of_taken {e : DispatchEntry} (off : s.portOff e = false) (long : s.tooLong e = false) :
    disposition s e = .queue := by
  rw [State.portOff, Bool.not_eq_false'] at off
  rw [State.tooLong, off, Bool.true_and, decide_eq_false_iff_not] at long
  rw [disposition]
  exact (if_neg (by rw [off]; nofun)).trans (if_neg long)

/-- What one entry does beside its port (R124). -/
theorem admitEntry_eq (s : State) (seq : Word16) (index : Nat) (e : DispatchEntry) :
    ∃ ports, admitEntry s seq index e = (s.reportOf seq index e).dispatched ports
      (s.dispatchCounters.dropped (if s.portOff e = true then 1 else 0) (if s.tooLong e = true then 1 else 0)) := by
  cases off : s.portOff e with
  | true =>
    have long : s.tooLong e = false := by
      rw [State.portOff, Bool.not_eq_true'] at off
      rw [State.tooLong, off, Bool.false_and]
    refine ⟨s.ports, ?_⟩
    rw [admitEntry, disposition_of_off off]
    dsimp only
    rw [reportUndelivered_eq s seq index _ (by rw [off]; rfl) (if_pos off), long]
    rfl
  | false =>
    cases long : s.tooLong e with
    | true =>
      refine ⟨s.ports, ?_⟩
      rw [admitEntry, disposition_of_long long]
      dsimp only
      rw [reportUndelivered_eq s seq index _ (by rw [long, Bool.or_true]) (if_neg (by rw [off]; nofun))]
      rfl
    | false =>
      refine ⟨(admitEntry s seq index e).ports, ?_⟩
      rw [admitEntry, disposition_of_taken off long, State.reportOf, State.reportsDrop, off, long]
      rfl

theorem reportOf_eq_foldl (s : State) (seq : Word16) (index : Nat) (e : DispatchEntry) :
    s.reportOf seq index e
      = (if s.reportsDrop e = true then [s.undeliveredEvent seq (e, index)] else []).foldl raise s := by
  unfold State.reportOf
  split <;> rfl

/-- What the entries of an admitted frame do beside the ports, in frame order (R124). -/
theorem admitEntries_eq (s : State) (seq : Word16) (index : Nat) (es : List DispatchEntry) :
    ∃ ports, admitEntries s seq index es = ((s.undeliveredEvents seq index es).foldl raise s).dispatched ports
      (s.dispatchCounters.dropped (es.countP s.portOff) (es.countP s.tooLong)) := by
  induction es generalizing s index with
  | nil => exact ⟨s.ports, rfl⟩
  | cons e es ih =>
    obtain ⟨ports, first⟩ := admitEntry_eq s seq index e
    obtain ⟨ports', rest⟩ := ih (admitEntry s seq index e) (index + 1)
    have off : (admitEntry s seq index e).portOff = s.portOff := funext fun e' => (admitEntry_portOff s index e e').1
    have long : (admitEntry s seq index e).tooLong = s.tooLong := funext fun e' => (admitEntry_portOff s index e e').2
    have events : (admitEntry s seq index e).undeliveredEvents seq (index + 1) es
        = s.undeliveredEvents seq (index + 1) es := by
      have each : (admitEntry s seq index e).undeliveredEvent seq = s.undeliveredEvent seq := by
        funext x
        rw [State.undeliveredEvent, off]
        rfl
      simp only [State.undeliveredEvents, State.reportsDrop, off, long, each]
    rw [off, long, events] at rest
    refine ⟨ports', ?_⟩
    rw [admitEntries, rest, first, foldl_raise_dispatched, reportOf_eq_foldl, undeliveredEvents_cons, List.foldl_append,
      List.countP_cons, List.countP_cons]
    simp only [State.dispatched, DispatchCounters.dropped, bumpBy_add, Nat.add_comm]

end Admission

/-- Settles O49: the ports by the admission port by port, the rest by what the entries do beside the ports. -/
theorem admittedDispatchIsQueuedInOrder : Obligations.AdmittedDispatchIsQueuedInOrder := by
  intro s es receives sound free well pass seq toPort off long record undelivered fits
  have passes : ∀ e ∈ es, ¬ entryFails e = true := by
    intro e mem fail
    obtain ⟨port, node, broadcast, spare⟩ := pass e mem
    obtain high | zero | all | bit := (entryFails_iff e).mp fail
    · exact high.not_ge port
    · exact node zero
    · exact broadcast all
    · cases spare.symm.trans bit
  have takes (p : PortNo) : ∀ e ∈ es, decide (entryPort e = p ∧ s.ports[p].takes e = true) = toPort p e :=
    fun e mem => takes_eq (pass e mem).1 p
  have each (p : PortNo) : es.countP (fun e => decide (entryPort e = p ∧ s.ports[p].takes e = true))
      ≤ s.ports[p].freePlaces := by
    refine le_trans (le_of_eq (List.countP_congr fun e mem => ?_)) (fits p)
    rw [takes p e mem]
  have room : roomFor s es = true := (roomFor_iff s es).mpr fun p => by rw [queuedFor_eq]; exact each p
  have taken : exec (.dispatch seq es) s = .next (admitFrame s seq es) := by
    rw [exec_dispatch_of_receives receives well, takeDispatch_of_room (controlRoom_of_le free),
      seqCase_equal (by rw [sub_self]; rfl)]
    simp only [takeExpected, firstFailing_eq_none passes, room, if_true]
  obtain ⟨ports, admitted⟩ := admitEntries_eq s seq 0 es
  have events : EventReach s (undelivered.foldl raise s) := foldl_raise_reach undelivered s
  have beside : admitEntries s seq 0 es = (undelivered.foldl raise s).dispatched ports
      (s.dispatchCounters.dropped (es.countP off) (es.countP long)) := admitted
  refine ⟨_, taken, fun p => ?_, ?_, ?_, ?_, ?_, ?_⟩
  · have port : (admitFrame s seq es).ports[p] = Port.admitAll p seq 0 es s.ports[p] := admitEntries_port s seq 0 es p
    obtain ⟨sound', records, same⟩ := admit_spec (sound.ports p) 0 es (each p)
    rw [port]
    refine ⟨?_, sound'.idle_empty, same⟩
    rw [records]
    have filtered : (es.zipIdx.filter fun x => decide (entryPort x.1 = p ∧ s.ports[p].takes x.1 = true))
        = es.zipIdx.filter fun x => toPort p x.1 :=
      List.filter_congr fun x mem => takes p x.1 (List.fst_mem_of_mem_zipIdx mem)
    rw [filtered]
    rfl
  · have expected := congrArg State.expectedDispatch beside
    have kept : (undelivered.foldl raise s).expectedDispatch = s.expectedDispatch := (congrArg State.expectedDispatch events :)
    exact congrArg (· + 1) (expected.trans kept)
  · have counters := congrArg State.dispatchCounters beside
    simp only [admitFrame, answerAck, State.placeControl, counters]
    rfl
  · exact (congrArg State.eventQueue beside :)
  · exact (congrArg State.lostEvents beside :)
  · have queue := congrArg State.controlQueue beside
    have kept : (undelivered.foldl raise s).controlQueue = s.controlQueue := (congrArg State.controlQueue events :)
    exact congrArg (· ++ _) (queue.trans kept)

end Sys2Proof.Machine
end

section
/-! Proofs: the commands that report the state, and RESUME and QUIESCE by operating state (R20, R30 to R36, R65, R145 to R147, R151 to R154). -/

namespace Sys2Proof.Machine

open Safety

/-! ### What READ_STATUS and READ_SLOTS see of the slots (R65, R154) -/

theorem slots_toList (s : State) : s.slots.toList = slotNos.map fun n => s.slots[n] := by
  refine List.ext_getElem (by rw [Vector.length_toList, List.length_map]; rfl) fun i hi hi' => ?_
  rw [Vector.length_toList] at hi
  rw [List.getElem_map, Vector.getElem_toList]
  obtain ⟨_, same⟩ := List.getElem?_eq_some_iff.mp (slotNos_getElem ⟨i, hi⟩)
  exact (congrArg (fun n : SlotNo => s.slots[n]) same).symm

section Counts

variable (s : State)

theorem slotCounts_idle : s.slotCounts.1 = s.slots.toList.countP fun x => x == .idle := by
  rw [slots_toList, List.countP_map]
  refine List.countP_congr fun n _ => ?_
  rw [Function.comp_apply, beq_iff_eq]
  cases s.slots[n] <;> simp

theorem slotCounts_open : s.slotCounts.2.1 = s.slots.toList.countP slotOpen := by
  rw [slots_toList, List.countP_map]
  refine List.countP_congr fun n _ => ?_
  rw [Function.comp_apply]
  cases s.slots[n] <;> simp [slotOpen]

theorem slotCounts_closed :
    s.slotCounts.2.2 = s.slots.toList.countP fun x => slotClosedFor .express x || slotClosedFor .bulk x := by
  rw [slots_toList, List.countP_map]
  refine List.countP_congr fun n _ => ?_
  rw [Function.comp_apply]
  cases s.slots[n] with
  | closed b cause cls => cases cls <;> simp [slotClosedFor]
  | _ => simp [slotClosedFor]

end Counts

/-- The configuration's item MISS_ACTION as its code (R180). -/
theorem config_bytes (c : GlobalConfig) :
    c.bytes = [c.paceCount] ++ be16 c.paceWindow ++ be16 c.ackTimeout
      ++ [c.retryLimit, if c.missAction = .drop then 0 else 1, byteOf c.defaultProfile.val]
      ++ be16 c.poolLowMark ++ [c.expressRun] ++ be16 (c.eventMask.setWidth 16) := by
  unfold GlobalConfig.bytes
  cases c.missAction <;> rfl

/-- Settles O51: each result part as it is put together from the accepted state. -/
theorem readingCommandsReportTheState : Obligations.ReadingCommandsReportTheState := by
  constructor
  · intro s id executes slots
    refine ⟨command_answered executes rfl, command_answered executes ?status, command_answered executes ?slots,
      command_answered executes ?config⟩
    case status =>
      simp only [Execution.done, statusResult, slotCounts_idle, slotCounts_open, slotCounts_closed]
      rfl
    case slots =>
      have reports : (slotNos.flatMap fun n => slotReport (accepted s).partTime (accepted s).slots[n])
          = slots.flatMap (slotReport s.partTime) := by
        rw [show slots = _ from slots_toList s, List.flatMap_map]
        rfl
      simp only [Execution.done, reports]
      refine congrArg (fun f => (⟨accepted s, some (.ok, slots.flatMap f), false⟩ : Execution)) (funext fun slot => ?_)
      cases slot <;> rfl
    case config =>
      rw [← config_bytes]
      rfl
  · intro s id x bank executes answers
    refine ⟨fun i named => ⟨fun active => command_answered executes ?active, fun shadow =>
        command_answered executes ?shadow⟩, fun past => command_answered executes (if_neg (by omega)),
      fun p named => command_answered executes ?profile, fun past => command_answered executes (if_neg (by omega)),
      fun i named => command_answered executes ?template, fun past => command_answered executes (if_neg (by omega)),
      fun p named => command_answered executes ?port, fun past => command_answered executes (if_neg (by omega))⟩
    case active =>
      simp [named, Nat.le_of_lt_succ i.isLt, active, accepted, Execution.done]
    case shadow =>
      simp [named, Nat.le_of_lt_succ i.isLt, shadow, accepted, Execution.done]
    case profile =>
      simp [named, Nat.le_of_lt_succ p.isLt, accepted, Execution.done]
    case template =>
      simp [named, Nat.le_of_lt_succ i.isLt, accepted, Execution.done]
    case port =>
      simp [named, Nat.le_of_lt_succ p.isLt, accepted, Execution.done]
      rfl

/-- The timeout of a QUIESCE is in range (R146). -/
theorem quiesce_badParam_iff (timeout : Word16) :
    timeout.toNat = 0 ∨ 60000 < timeout.toNat ↔ ¬ (1 ≤ timeout.toNat ∧ timeout.toNat ≤ 60000) := by
  omega

/-- Settles O55: RESUME and QUIESCE by the operating state. -/
theorem resumeAndQuiesceAnswerByState : Obligations.ResumeAndQuiesceAnswerByState := by
  intro s id timeout executes inRange answers
  have taken (h : inRange) : ¬ (timeout.toNat = 0 ∨ 60000 < timeout.toNat) := fun past =>
    (quiesce_badParam_iff timeout).mp past h
  refine ⟨fun quiesced => command_answered executes ?resume, fun quiesced free => command_answered executes ?free,
    fun run => command_answered executes ?run, fun draining => command_answered executes ?draining,
    fun h run idle => command_answered executes ?idle, fun h quiesced => command_answered executes ?quiesced,
    fun h draining => command_answered executes ?busy,
    fun h => command_answered executes (if_pos ((quiesce_badParam_iff timeout).mpr h))⟩
  case resume => simp [accepted, quiesced, Execution.done]
  case free => simp [accepted, quiesced, Execution.done, tryHeld_of_free, free]
  case run => simp [accepted, run, Execution.done]
  case draining => simp [accepted, draining, Execution.refuse]
  case idle =>
    have all : (accepted s).allIdle = true := (allIdle_iff _).mpr idle
    refine (if_neg (taken h)).trans ?_
    simp [accepted, run, quiesceRun, Execution.done]
    exact all
  case quiesced => exact (if_neg (taken h)).trans (by simp [accepted, quiesced, Execution.done])
  case busy => exact (if_neg (taken h)).trans (by simp [accepted, draining, Execution.refuse])

end Sys2Proof.Machine
end

section
/-! Proofs: the commands that write a table or the configuration, and what is read back of it (R25, R29 to R35, R90, R151, R152, R179, R180). -/

namespace Sys2Proof.Machine

open Safety

/-! ### Bytes read back -/

theorem flagByte_byteFlag {b : Byte} (h : b.toNat ≤ 1) : flagByte (byteFlag b) = b := by
  simp only [flagByte, byteFlag, beq_iff_eq]
  split <;> bv_omega

/-- A number kept modulo `n` reads back as the byte it came from. -/
theorem byteOf_ofNat {n : Nat} [NeZero n] {b : Byte} (h : b.toNat < n) : byteOf (Fin.ofNat n b.toNat).val = b := by
  simp only [byteOf, Fin.ofNat, Nat.mod_eq_of_lt h, BitVec.ofNat_toNat, BitVec.setWidth_eq]

/-- A byte within `n` bits keeps its value through a field of `n` bits. -/
theorem setWidth_setWidth_of_lt {w n : Nat} {b : BitVec w} (h : b.toNat < 2 ^ n) : (b.setWidth n).setWidth w = b := by
  refine BitVec.eq_of_toNat_eq ?_
  rw [BitVec.toNat_setWidth, BitVec.toNat_setWidth, Nat.mod_eq_of_lt h, Nat.mod_eq_of_lt b.isLt]

/-- A number that may be absent, as its byte: 0xFF for none (R180). -/
def optionByte {n : Nat} : Option (Fin n) → Byte
  | none => 0xFF
  | some p => byteOf p.val

/-- A channel that may be any, as its byte (R180). -/
def channelByte : Option (BitVec 4) → Byte
  | none => 0xFF
  | some c => c.setWidth 8

/-- The last two bytes of a match record: action and profile id, 0 for a DROP (R25, R180). -/
def actionBytes : MatchAction → List Byte
  | .route p => [0, byteOf p.val]
  | .drop => [1, 0]

theorem matchEntry_bytes (e : MatchEntry) :
    e.bytes = [flagByte e.valid, optionByte e.port, e.nodeLow, e.nodeHigh, channelByte e.channel] ++ actionBytes e.action := by
  obtain ⟨valid, port, low, high, channel, action⟩ := e
  rcases port with _ | port <;> rcases channel with _ | channel <;> cases action <;> rfl

theorem profile_bytes (p : Profile) :
    p.bytes = [flagByte p.valid] ++ be16 p.destination ++ [classByte p.cls, p.recordLimit] ++ be16 p.byteLimit
      ++ be16 p.idleTime ++ be16 p.ageLimit ++ [optionByte p.template, flagByte p.stamp] := by
  unfold Profile.bytes
  cases p.template <;> rfl

theorem optionByte_ofNat {n : Nat} [NeZero n] {b : Byte} (h : b.toNat < n ∨ b = 0xFF#8) :
    optionByte (if b = 0xFF#8 then none else some (Fin.ofNat n b.toNat)) = b := by
  by_cases none : b = 0xFF#8
  · rw [if_pos none, none]
    rfl
  · rw [if_neg none]
    exact byteOf_ofNat (h.resolve_right none)

theorem channelByte_setWidth {b : Byte} (h : b.toNat ≤ 15 ∨ b = 0xFF#8) :
    channelByte (if b = 0xFF#8 then none else some (b.setWidth 4)) = b := by
  by_cases every : b = 0xFF#8
  · rw [if_pos every, every]
    rfl
  · rw [if_neg every]
    exact setWidth_setWidth_of_lt (Nat.lt_succ_of_le (h.resolve_right every))

/-- What is read back of a byte coded 0 or 1 is that byte. -/
theorem codedByte {b : Byte} (h : b.toNat ≤ 1) : (if b = 1 then (1 : Byte) else 0) = b := by
  split <;> bv_omega

theorem matchEntryOf_bytes {r : MatchRecord} (h : matchInRange r = true) :
    (matchEntryOf r).bytes = ({ r with profile := if r.action = 1 then 0 else r.profile } : MatchRecord).bytes := by
  obtain ⟨valid, port, _, _, _, channel, action⟩ := (matchInRange_iff r).mp h
  have last : actionBytes (if r.action = 1 then .drop else .route (Fin.ofNat 32 r.profile.toNat))
      = [r.action, if r.action = 1 then 0 else r.profile] := by
    obtain drop | ⟨route, profile⟩ := action
    · rw [if_pos drop, if_pos drop, drop]
      rfl
    · have other : ¬ r.action = 1 := by rw [route]; decide
      rw [if_neg other, if_neg other, route, actionBytes, byteOf_ofNat (Nat.lt_succ_of_le profile)]
  rw [matchEntry_bytes]
  simp only [matchEntryOf, flagByte_byteFlag valid, last, optionByte_ofNat (port.imp_left Nat.lt_succ_of_le),
    channelByte_setWidth channel]
  rfl

theorem profileOf_bytes {r : ProfileRecord} (h : profileInRange r = true) : (profileOf r).bytes = r.bytes := by
  obtain ⟨valid, cls, _, _, _, _, template, stamp⟩ := (profileInRange_iff r).mp h
  have classOf : classByte (if r.cls = 1 then .express else .bulk) = r.cls := by
    rw [apply_ite classByte]
    exact codedByte cls
  rw [profile_bytes]
  simp only [profileOf, flagByte_byteFlag valid, flagByte_byteFlag stamp, classOf,
    optionByte_ofNat (template.imp_left Nat.lt_succ_of_le)]
  rfl

theorem configOf_bytes {r : ConfigRecord} (h : configInRange r = true) : (configOf r).bytes = r.bytes := by
  obtain ⟨_, _, _, _, _, _, _, action, profile, _, _, _, mask⟩ := (configInRange_iff r).mp h
  have actionByte : (if (configOf r).missAction = .drop then (0 : Byte) else 1) = r.missAction := by
    unfold configOf
    refine Eq.trans ?_ (codedByte action)
    by_cases toDefault : r.missAction = 1
    · rw [if_pos toDefault, if_pos toDefault]
      rfl
    · rw [if_neg toDefault, if_neg toDefault]
      rfl
  have maskWord : (r.eventMask.setWidth 9).setWidth 16 = r.eventMask :=
    setWidth_setWidth_of_lt (Nat.lt_succ_of_le mask)
  rw [config_bytes, actionByte]
  simp only [configOf, byteOf_ofNat (Nat.lt_succ_of_le profile), maskWord]
  rfl

theorem writeTemplate_answered {s t : State} {id : Word16} {x length : Byte} {bytes : List Byte} {status : Status}
    (executes : Executes s id) (declared : bytes.length = length.toNat)
    (answer : (if x.toNat ≤ 7 ∧ length.toNat ≤ 32 then
        Execution.done { accepted s with
          templates := s.templates.set (Fin.ofNat 8 x.toNat).val bytes (Fin.ofNat 8 x.toNat).isLt } []
      else Execution.refuse (accepted s) .badParam) = ⟨t, some (status, []), false⟩) :
    exec (.writeTemplate id x length bytes) s = .next (replied t id 0x15 status []) :=
  (if_pos (decide_eq_true declared)).trans (command_answered executes answer)

/-- Settles O52: each write by its range check, and the record read back byte by byte. -/
theorem tableWritesAreTakenAndReadBack : Obligations.TableWritesAreTakenAndReadBack := by
  unfold Obligations.TableWritesAreTakenAndReadBack
  intro nodeRange matchRange profileRange configRange
  have matchRange_iff (r : MatchRecord) : matchInRange r = true ↔ matchRange r := matchInRange_iff r
  have configRange_iff (r : ConfigRecord) : configInRange r = true ↔ configRange r := configInRange_iff r
  refine ⟨fun s id executes => ⟨fun x r i named inRange => command_answered executes ?written,
      fun x r bad => command_answered executes ?badMatch, command_answered executes rfl,
      fun x length bytes i named declared short => ?template, fun x length bytes declared bad => ?badTemplate⟩,
    fun s id r executes => ⟨fun inRange quiesced => command_answered executes ?config,
      fun inRange other => command_answered executes ?badState, fun bad => command_answered executes ?badConfig⟩,
    fun r inRange => matchEntryOf_bytes ((matchRange_iff r).mpr inRange),
    fun r inRange => profileOf_bytes ((profileInRange_iff r).mpr inRange),
    fun r inRange => configOf_bytes ((configRange_iff r).mpr inRange)⟩
  case written =>
    simp [named, Nat.le_of_lt_succ i.isLt, (matchRange_iff r).mpr inRange, accepted, Execution.done]
  case badMatch =>
    refine if_neg fun ⟨inTable, inRange⟩ => ?_
    exact bad.elim inTable.not_gt fun bad => bad ((matchRange_iff r).mp inRange)
  case template =>
    refine writeTemplate_answered executes declared ?_
    simp [named, Nat.le_of_lt_succ i.isLt, short, Execution.done]
  case badTemplate =>
    exact writeTemplate_answered executes declared (if_neg (by omega))
  case config =>
    simp [(configRange_iff r).mpr inRange, quiesced, accepted, Execution.done, writeConfig, configOf]
  case badState =>
    simp [(configRange_iff r).mpr inRange, other, accepted, Execution.refuse]
  case badConfig =>
    exact if_pos (by rw [Bool.eq_false_iff.mpr fun inRange => bad ((configRange_iff r).mp inRange)]; rfl)

end Sys2Proof.Machine
end

section
/-! Proofs: statistics counters, what READ_COUNTERS answers of a group, and what its clear leaves (R76, R155, R170 to R172). -/

namespace Sys2Proof.Machine

open Safety

/-! ### Saturation (R170) -/

theorem bump_toNat (c : Counter) : (bump c).toNat = min (c.toNat + 1) 4294967295 := by
  unfold bump
  split <;> bv_omega

theorem bumpBy_toNat (c : Counter) (n : Nat) : (bumpBy c n).toNat = min (c.toNat + n) 4294967295 := by
  induction n generalizing c with
  | zero => exact (Nat.min_eq_left (Nat.le_of_lt_succ c.isLt)).symm
  | succ n ih =>
    have rest : (bumpBy c (n + 1)).toNat = min ((bump c).toNat + n) 4294967295 := ih (bump c)
    rw [rest, bump_toNat]
    omega

theorem bump_of_full {c : Counter} (full : c.toNat = 4294967295) : bump c = c := by
  refine BitVec.eq_of_toNat_eq ?_
  rw [bump_toNat, full]
  rfl

/-! ### Groups and their clear (R76, R155, R171, R172) -/

section Groups

variable {s : State} {group port : Byte} {g : CounterGroup}

/-- The code of a group; the port byte names the port of a PORT group (R155). -/
def CounterGroup.named (group port : Byte) : CounterGroup → Prop
  | .port p => group = 0 ∧ port.toNat = p.val
  | .matches => group = 1
  | .classify => group = 2
  | .cause => group = 3
  | .pool => group = 4
  | .trunk => group = 5
  | .dispatch => group = 6
  | .mgmt => group = 7

theorem groupOf_of_named (h : g.named group port) : groupOf group port = some g := by
  cases g with
  | port p =>
    obtain ⟨rfl, named⟩ := h
    have low : port.toNat ≤ 3 := by omega
    have same : Fin.ofNat 4 port.toNat = p := Fin.ext ((Nat.mod_eq_of_lt (Nat.lt_succ_of_le low)).trans named)
    rw [groupOf, if_pos rfl, if_pos low, same]
  | _ =>
    obtain rfl : group = _ := h
    rfl

theorem groupOf_of_unknown (h : 7 < group.toNat ∨ group = 0 ∧ 3 < port.toNat) : groupOf group port = none := by
  unfold groupOf
  obtain high | ⟨rfl, high⟩ := h
  · have other (code : Byte) (low : code.toNat ≤ 7) : ¬ group = code := fun same => high.not_ge (same ▸ low)
    rw [if_neg (other 0 (by decide)), if_neg (other 1 (by decide)), if_neg (other 2 (by decide)),
      if_neg (other 3 (by decide)), if_neg (other 4 (by decide)), if_neg (other 5 (by decide)),
      if_neg (other 6 (by decide)), if_neg (other 7 (by decide))]
  · rw [if_pos rfl, if_neg high.not_ge]

/-- Every item of a cleared group but POOL reads 0 (R172). -/
theorem clearGroup_zero (other : g ≠ .pool) : ∀ x ∈ groupItems (clearGroup s g) g, x = 0 := by
  have ports (p : PortNo) : (clearGroup s (.port p)).ports[p].counters = .zero := by
    have get := State.setPort_get s p p { s.ports[p] with counters := .zero }
    rw [if_pos rfl] at get
    exact congrArg Port.counters get
  cases g with
  | pool => exact absurd rfl other
  | port p =>
    intro x mem
    rw [groupItems, ports] at mem
    simpa [PortCounters.items, PortCounters.zero] using mem
  | classify | cause | trunk | dispatch | mgmt =>
    intro x mem
    simpa [groupItems, clearGroup, ClassifyCounters.items, CauseCounters.items, TrunkCounters.items,
      DispatchCounters.items, MgmtCounters.items] using mem
  | _ =>
    -- MATCH, the one group whose items are a vector of their own
    intro x mem
    exact List.eq_of_mem_replicate (n := 128) (by simpa [groupItems, clearGroup] using mem)

/-- The clear of one group leaves the others (R172). -/
theorem clearGroup_other {g' : CounterGroup} (other : g' ≠ g) : groupItems (clearGroup s g) g' = groupItems s g' := by
  cases g with
  | port p =>
    cases g' with
    | port q =>
      have apart : q ≠ p := fun same => other (same ▸ rfl)
      have get := State.setPort_get s p q { s.ports[p] with counters := .zero }
      rw [if_neg apart] at get
      exact congrArg (fun port : Port => port.counters.items) get
    | _ => rfl
  | _ => cases g' <;> first | rfl | exact absurd rfl other

theorem clearGroup_intakeArmed (p : PortNo) :
    (clearGroup s g).intakeArmed[p] = (s.intakeArmed[p] || decide (g = .port p)) := by
  cases g with
  | port q =>
    have armed : (clearGroup s (.port q)).intakeArmed = s.intakeArmed.set q.val true q.isLt := rfl
    rw [armed]
    by_cases same : q = p
    · subst same
      simp
    · have apart : q.val ≠ p.val := fun eq => same (Fin.ext eq)
      simp [apart, same]
  | _ => exact (Bool.or_false _).symm

theorem clearGroup_routeMissArmed : (clearGroup s g).routeMissArmed = (s.routeMissArmed || decide (g = .classify)) := by
  cases g with
  | classify => exact (Bool.or_true _).symm
  | _ => exact (Bool.or_false _).symm

/-- The clear of a group takes no block and arms no pool flag. -/
theorem clearGroup_keepsPool (s : State) (g : CounterGroup) : (clearGroup s g).freeList = s.freeList
    ∧ (clearGroup s g).poolLowArmed = s.poolLowArmed ∧ (clearGroup s g).poolExhaustedArmed = s.poolExhaustedArmed := by
  cases g <;> exact ⟨rfl, rfl, rfl⟩

end Groups

/-- Settles O58: saturation by number, then READ_COUNTERS by its range check and the clear by its group. -/
theorem countersSaturateAndAreReadThenCleared : Obligations.CountersSaturateAndAreReadThenCleared := by
  refine ⟨fun c n => ⟨fun below => ?_, bump_of_full, bumpBy_toNat c n⟩, ?_⟩
  · rw [bump_toNat]
    omega
  intro s id group port first count clear g executes answers named size items run inRange
  have length : items.length = size := groupItems_length (accepted s) g
  have known (h : named) : groupOf group port = some g := groupOf_of_named (g := g) (by cases g <;> exact h)
  have fits_iff : (1 ≤ count.toNat ∧ first.toNat + count.toNat ≤ (groupItems (accepted s) g).length ∧ clear.toNat ≤ 1)
      ↔ inRange ∧ clear.toNat ≤ 1 := by
    rw [show (groupItems (accepted s) g).length = size from length, and_assoc]
  refine ⟨length, fun unknown => command_answered executes ?unknown, fun h => ?named⟩
  case unknown => simp only [groupOf_of_unknown unknown, Execution.refuse]
  case named =>
    have answer (t : State) (status : Status) (result : List Byte)
        (x : (if 1 ≤ count.toNat ∧ first.toNat + count.toNat ≤ (groupItems (accepted s) g).length ∧ clear.toNat ≤ 1 then
            Execution.done (if clear = 1 then clearGroup (accepted s) g else accepted s) run
          else Execution.refuse (accepted s) .badParam) = ⟨t, some (status, result), false⟩) : answers t status result :=
      command_answered executes (by simp only [known h]; exact x)
    refine ⟨fun bad => answer _ _ _ (if_neg ?bad), fun fits keep => answer _ _ _ ?keep,
      fun fits clears => ⟨clearGroup (accepted s) g, answer _ _ _ ?clear, clearGroup_zero, by rintro rfl; rfl,
        fun g' other => clearGroup_other other, clearGroup_intakeArmed, clearGroup_routeMissArmed,
        clearGroup_keepsPool (accepted s) g⟩⟩
    case bad =>
      rw [fits_iff]
      exact fun ⟨fits, low⟩ => bad.elim (· fits) low.not_gt
    case keep =>
      refine (if_pos (fits_iff.mpr ⟨fits, by rw [keep]; decide⟩)).trans ?_
      rw [keep]
      rfl
    case clear =>
      refine (if_pos (fits_iff.mpr ⟨fits, by rw [clears]; decide⟩)).trans ?_
      rw [clears]
      rfl

end Sys2Proof.Machine
end

section
/-! Proofs: WRITE_PROFILE and FLUSH of one profile id, FLUSH ALL and QUIESCE, and PORT_CONTROL (R2, R33, R59 to R62, R146). -/

namespace Sys2Proof.Machine

open Safety

/-! ### One profile id (R33, R60, R62) -/

section OneProfile

variable {s : State} {p : Fin 32}

theorem closeProfile_of_shut (shut : ∀ n : SlotNo, openProfile s.slots[n] ≠ some p) (cause : CloseCause) :
    closeProfile s p cause = s := by
  simp only [closeProfile, openSlotOf_of_none shut]

theorem closeProfile_of_opened (sound : SlotTableSound s) {n : SlotNo} {b : Bundle} {idle age : Option PartTime}
    (opened : s.slots[n] = .opened b idle age) (cause : CloseCause) :
    closeProfile s b.snapshot.profile cause
      = closedState s n b cause (queueClassOf b cause) (s.causes.countClose cause) := by
  simp only [closeProfile, openSlotOf_of_opened sound opened, closeSlot_eq opened]

theorem tryHeldFor_of_other (h : s.opState ≠ .run ∨ ∀ h, s.hold = some h → h.profile ≠ p) : tryHeldFor s p = s := by
  unfold tryHeldFor
  split
  · rename_i held holds
    split
    · rename_i same
      exact tryHeld_of_not_run (h.resolve_right fun other => other held holds same)
    · rfl
  · rfl

theorem tryHeldFor_of_held {taken : TakenRecord} (holds : s.hold = some ⟨taken, p⟩) : tryHeldFor s p = tryHeld s := by
  simp only [tryHeldFor, holds, if_true]

end OneProfile

/-- Settles O53: the OPEN slot of the id, then the trial of a record held for it. -/
theorem profileWriteAndFlushCloseTheSlot : Obligations.ProfileWriteAndFlushCloseTheSlot := by
  constructor
  · intro s id x r executes inRange
    have inRange_iff : profileInRange r = true ↔ inRange := profileInRange_iff r
    constructor
    · intro p named fits sound written leaves
      have index : Fin.ofNat 32 x.toNat = p := Fin.ext ((Nat.mod_eq_of_lt (by omega)).trans named)
      have low : x.toNat ≤ 31 := by omega
      have closes (t : State) (closed : closeProfile written p .profileChanged = t) (hold : t.hold = s.hold)
          (opState : t.opState = s.opState) : leaves t := by
        have answer : exec (.writeProfile id x r) s = .next (replied (tryHeldFor t p) id 0x13 .ok []) := by
          refine command_answered executes ?_
          subst closed index
          exact if_pos ⟨low, inRange_iff.mpr fits⟩
        refine ⟨fun other => ?_, fun taken holds => ?_⟩
        · rw [answer, tryHeldFor_of_other (by rwa [hold, opState])]
        · rw [answer, tryHeldFor_of_held (hold.trans holds)]
      refine ⟨fun shut => closes written (closeProfile_of_shut (s := written) shut _) rfl rfl, fun n b idle age opened profile => ?_⟩
      have same : SlotTableSound written := slotTableSound_congr sound rfl rfl (fun cls => by cases cls <;> rfl) rfl rfl rfl
      subst profile
      exact closes _ (closeProfile_of_opened same opened _) rfl rfl
    · exact fun bad => command_answered executes (if_neg fun ⟨low, fits⟩ =>
        bad.elim low.not_gt fun bad => bad (inRange_iff.mp fits))
  · intro s id x executes sound
    have same : SlotTableSound (accepted s) := slotTableSound_congr sound rfl rfl (fun cls => by cases cls <;> rfl) rfl rfl rfl
    refine ⟨fun p named => ?_, fun high below => command_answered executes ?bad⟩
    case bad => exact (if_neg (by rintro rfl; exact absurd below (by decide))).trans (if_neg high.not_ge)
    have index : Fin.ofNat 32 x.toNat = p := Fin.ext ((Nat.mod_eq_of_lt (by omega)).trans named)
    have one : ¬ x = 0xFF#8 := by
      rintro rfl
      exact absurd named (by have := p.isLt; simp; omega)
    have answer (t : State) (closed : closeProfile (accepted s) p .flush = t) :
        exec (.flush id x) s = .next (replied t id 0x20 .ok []) := by
      refine command_answered executes ?_
      subst closed index
      exact (if_neg one).trans (if_pos (by omega))
    refine ⟨fun shut => answer _ (closeProfile_of_shut (s := accepted s) shut _), fun n b idle age opened profile => ?_⟩
    subst profile
    exact answer _ (closeProfile_of_opened same opened _)

/-! ### Every OPEN slot (R60, R61, R146) -/

/-- What a close makes of a slot: the bundle of an OPEN one stands CLOSED (R48). -/
def closedSlot (cause : CloseCause) : Slot → Slot
  | .opened b _ _ => .closed b cause (queueClassOf b cause)
  | slot => slot

/-- A slot is OPEN and would close to a class. -/
def closesTo (cause : CloseCause) (cls : BundleClass) : Slot → Bool
  | .opened b _ _ => queueClassOf b cause == cls
  | _ => false

theorem closedSlot_of_not_open {slot : Slot} (shut : slotOpen slot = false) (cause : CloseCause) :
    closedSlot cause slot = slot := by
  cases slot with
  | opened => cases shut
  | _ => rfl

theorem slotOpen_closedSlot (cause : CloseCause) (slot : Slot) : slotOpen (closedSlot cause slot) = false := by
  cases slot <;> rfl

section EverySlot

variable {s : State} {l : List SlotNo}

/-- The closes of listed slots, in list order. -/
def closeList (cause : CloseCause) (s : State) (l : List SlotNo) : State := l.foldl (fun s n => closeSlot s n cause) s

theorem closeSlot_closedSlot (s : State) (n : SlotNo) (cause : CloseCause) (m : SlotNo) :
    (closeSlot s n cause).slots[m] = if m = n then closedSlot cause s.slots[n] else s.slots[m] := by
  by_cases opened : slotOpen s.slots[n] = true
  · obtain ⟨b, idle, age, h⟩ := (slotOpen_iff _).mp opened
    rw [closeSlot_slots h, h]
    rfl
  · have shut := Bool.eq_false_iff.mpr opened
    rw [closeSlot_of_not_open shut, closedSlot_of_not_open shut]
    split
    · rename_i same
      rw [same]
    · rfl

theorem closeList_slots (cause : CloseCause) (nodup : l.Nodup) (m : SlotNo) :
    (closeList cause s l).slots[m] = if m ∈ l then closedSlot cause s.slots[m] else s.slots[m] := by
  induction l generalizing s with
  | nil => rfl
  | cons n l ih =>
    obtain ⟨fresh, rest⟩ := List.nodup_cons.mp nodup
    have next : (closeList cause s (n :: l)).slots[m] = _ := ih (s := closeSlot s n cause) rest
    rw [next, closeSlot_closedSlot]
    by_cases same : m = n
    · subst same
      rw [if_pos rfl, if_neg fresh, if_pos List.mem_cons_self]
    · rw [if_neg same]
      simp only [List.mem_cons, same, false_or]

theorem closeList_closeOrder (cause : CloseCause) (cls : BundleClass) (nodup : l.Nodup) :
    (closeList cause s l).closeOrder cls = s.closeOrder cls ++ l.filter fun n => closesTo cause cls s.slots[n] := by
  induction l generalizing s with
  | nil => exact (List.append_nil _).symm
  | cons n l ih =>
    obtain ⟨fresh, rest⟩ := List.nodup_cons.mp nodup
    have next : (closeList cause s (n :: l)).closeOrder cls = _ := ih (s := closeSlot s n cause) rest
    have later : l.filter (fun m => closesTo cause cls (closeSlot s n cause).slots[m])
        = l.filter fun m => closesTo cause cls s.slots[m] :=
      List.filter_congr fun m mem => by
        have other : m ≠ n := fun same => fresh (same ▸ mem)
        rw [closeSlot_closedSlot, if_neg other]
    rw [next, later, List.filter_cons]
    by_cases opened : slotOpen s.slots[n] = true
    · obtain ⟨b, idle, age, h⟩ := (slotOpen_iff _).mp opened
      rw [closeSlot_closeOrder h, h]
      by_cases same : queueClassOf b cause = cls
      · rw [if_pos same, if_pos (by simp only [closesTo, same, beq_self_eq_true]), List.append_assoc]
        rfl
      · rw [if_neg same, if_neg (by simp only [closesTo, beq_iff_eq, same, not_false_eq_true])]
    · have none : closesTo cause cls s.slots[n] = false := by
        cases slot : s.slots[n] with
        | opened => rw [slot] at opened; exact absurd rfl opened
        | _ => rfl
      rw [closeSlot_of_not_open (Bool.eq_false_iff.mpr opened), none]
      rfl

/-- The closes of the slots of the Open Order List, all of them OPEN, empty it and are counted. -/
theorem closeList_opened (cause : CloseCause) (nodup : l.Nodup) (order : s.openOrder = l)
    (opened : ∀ n ∈ l, slotOpen s.slots[n] = true) :
    (closeList cause s l).openOrder = []
      ∧ (closeList cause s l).causes = times (fun c => c.countClose cause) l.length s.causes := by
  induction l generalizing s with
  | nil => exact ⟨order, rfl⟩
  | cons n l ih =>
    obtain ⟨fresh, rest⟩ := List.nodup_cons.mp nodup
    obtain ⟨b, idle, age, h⟩ := (slotOpen_iff _).mp (opened n List.mem_cons_self)
    have order' : (closeSlot s n cause).openOrder = l := by
      rw [closeSlot_openOrder h, order, List.erase_cons_head]
    have opened' : ∀ m ∈ l, slotOpen (closeSlot s n cause).slots[m] = true := fun m mem => by
      have other : m ≠ n := fun same => fresh (same ▸ mem)
      rw [closeSlot_closedSlot, if_neg other]
      exact opened m (List.mem_cons_of_mem n mem)
    obtain ⟨empty, counted⟩ := ih rest order' opened'
    refine ⟨empty, counted.trans ?_⟩
    rw [closeSlot_eq h]
    rfl

theorem countClose_flush (c : CauseCounters) (n : Nat) :
    times (fun c : CauseCounters => c.countClose .flush) n c = { c with flush := bumpBy c.flush n } := by
  induction n generalizing c with
  | zero => rfl
  | succ n ih => exact ih _

theorem countClose_quiesce (c : CauseCounters) (n : Nat) :
    times (fun c : CauseCounters => c.countClose .quiesce) n c = { c with quiesce := bumpBy c.quiesce n } := by
  induction n generalizing c with
  | zero => rfl
  | succ n ih => exact ih _

theorem closeList_closeReach (cause : CloseCause) (s : State) (l : List SlotNo) : CloseReach s (closeList cause s l) := by
  induction l generalizing s with
  | nil => rfl
  | cons n l ih => exact (closeSlot_closeReach s n cause).trans (ih _)

end EverySlot

/-- Settles O54: the closes slot by slot, in the order of the Open Order List. -/
theorem flushAllAndQuiesceCloseOpenSlots : Obligations.FlushAllAndQuiesceCloseOpenSlots := by
  intro s id timeout executes sound bundleOf toList closes
  have openIff (n : SlotNo) : n ∈ s.openOrder ↔ slotOpen s.slots[n] = true := sound.openOrder_iff n
  have closed (u : State) (cause : CloseCause) (plain : ∀ b, queueClassOf b cause = b.snapshot.cls)
      (slots : u.slots = s.slots) (openOrder : u.openOrder = s.openOrder) (closeOrder : ∀ cls, u.closeOrder cls = s.closeOrder cls)
      (hold : u.hold = s.hold) (mark : u.evictionMark = s.evictionMark) (freeList : u.freeList = s.freeList) :
      closes cause (closeAll u cause) := by
    have all : closeAll u cause = closeList cause u s.openOrder := by rw [← openOrder]; rfl
    have reach := closeList_closeReach cause u s.openOrder
    have moved (cls : BundleClass) : (closeList cause u s.openOrder).closeOrder cls = s.closeOrder cls ++ toList cls := by
      rw [closeList_closeOrder cause cls sound.openOrder_nodup, closeOrder, slots]
      refine congrArg (s.closeOrder cls ++ ·) (List.filter_congr fun n _ => ?_)
      simp only [bundleOf]
      cases s.slots[n] with
      | opened b idle age => simp only [closesTo, plain, Option.any_some]
      | _ => rfl
    rw [all]
    refine ⟨(closeList_opened cause sound.openOrder_nodup openOrder fun n mem => ?_).1, moved .express, moved .bulk,
      fun n => ?_, (congrArg State.hold reach :).trans hold, (congrArg State.evictionMark reach :).trans mark,
      (congrArg State.freeList reach :).trans freeList⟩
    · rw [slots]
      exact (openIff n).mp mem
    · rw [closeList_slots cause sound.openOrder_nodup, slots]
      have same : (if n ∈ s.openOrder then closedSlot cause s.slots[n] else s.slots[n]) = closedSlot cause s.slots[n] := by
        split
        · rfl
        · rename_i shut
          rw [openIff, Bool.not_eq_true] at shut
          exact (closedSlot_of_not_open shut cause).symm
      rw [same]
      cases s.slots[n] with
      | opened b idle age => simp only [closedSlot, plain]
      | _ => rfl
  have counted (u : State) (cause : CloseCause) (slots : u.slots = s.slots) (openOrder : u.openOrder = s.openOrder) :
      (closeAll u cause).causes = times (fun c => c.countClose cause) s.openOrder.length u.causes := by
    have all : closeAll u cause = closeList cause u s.openOrder := by rw [← openOrder]; rfl
    rw [all]
    exact (closeList_opened cause sound.openOrder_nodup openOrder fun n mem => by rw [slots]; exact (openIff n).mp mem).2
  have same (cls : BundleClass) (u : State) (express : u.closeExpress = s.closeExpress) (bulk : u.closeBulk = s.closeBulk) :
      u.closeOrder cls = s.closeOrder cls := by
    cases cls
    · exact express
    · exact bulk
  refine ⟨⟨closeAll (accepted s) .flush, command_answered executes rfl,
    closed (accepted s) .flush (fun _ => rfl) rfl rfl (fun cls => same cls _ rfl rfl) rfl rfl rfl,
    (congrArg State.opState (closeAll_closeReach (accepted s) .flush) :),
    (counted (accepted s) .flush rfl rfl).trans (countClose_flush _ _)⟩, fun run positive low busy => ?_⟩
  let drains : State := { accepted s with opState := .draining }
  have inRange : ¬ (timeout.toNat = 0 ∨ 60000 < timeout.toNat) := by omega
  have not_idle : (accepted s).allIdle ≠ true := by
    rw [ne_eq, allIdle_iff]
    obtain ⟨n, other⟩ := busy
    exact fun idle => other (idle n)
  have reach := closeAll_closeReach drains .quiesce
  have deferred : exec (.quiesce id timeout) s = _ := command_deferred executes
    (t := { closeAll drains .quiesce with drainTimer := some (s.partTime + timeout.setWidth 32) }) (by
      refine (if_neg inRange).trans ?_
      rw [show (accepted s).opState = .run from run]
      exact if_neg not_idle)
  refine ⟨_, deferred,
    closed drains .quiesce (fun _ => rfl) rfl rfl (fun cls => same cls _ rfl rfl) rfl rfl rfl,
    (congrArg State.opState reach :), (counted drains .quiesce rfl rfl).trans (countClose_quiesce _ _), rfl,
    congrArg (· ++ _) (congrArg State.replyCache reach :), (congrArg State.controlQueue reach :)⟩

/-! ### PORT_CONTROL (R2) -/

section PortControl

variable {s : State} {p : PortNo}

theorem bitRate_ofByte_of_unknown {code : Byte} (high : 6 < code.toNat) : BitRate.ofByte code = none := by
  have other (known : Byte) (low : known.toNat ≤ 6) : ¬ code = known := fun same => high.not_ge (same ▸ low)
  unfold BitRate.ofByte
  rw [if_neg (other 0 (by decide)), if_neg (other 1 (by decide)), if_neg (other 2 (by decide)),
    if_neg (other 3 (by decide)), if_neg (other 4 (by decide)), if_neg (other 5 (by decide)), if_neg (other 6 (by decide))]

theorem writeSettings_eq (s : State) (p : PortNo) (rate : BitRate) (maxLen : Byte) :
    writeSettings s p rate maxLen = s.setPort p { s.ports[p] with bitRate := rate, maxLen := maxLen } :=
  State.modPort_eq s p _

theorem tryStart_of_empty {port : Port} (empty : port.txQueue = []) : port.tryStart = port := by
  unfold Port.tryStart
  rw [empty]
  split
  · rename_i queued
    cases queued
  · rfl

/-- A disable with the settings taken after it (R2 (1), (2)). -/
theorem controlPort_disable (sound : PortSound s.ports[p]) (rate : BitRate) (maxLen : Byte) :
    writeSettings (disablePort s p) p rate maxLen
      = (reportAll s p (s.ports[p].sending.toList ++ s.ports[p].txQueue)).setPort p
        { s.ports[p].disabled with bitRate := rate, maxLen := maxLen } := by
  rw [disablePort_eq sound, writeSettings_eq, State.setPort_get, if_pos rfl, State.setPort_setPort]

/-- An enable of a disabled port with the settings taken before it (R2 (2), (3)). -/
theorem controlPort_enable (sound : PortSound s.ports[p]) (disabled : s.ports[p].enabled = false) (rate : BitRate)
    (maxLen : Byte) :
    enablePort (writeSettings s p rate maxLen) p
      = s.setPort p { s.ports[p] with enabled := true, rx := .hunt, bitRate := rate, maxLen := maxLen } := by
  have settled := off_sound sound disabled
  have idle := sound.disabled_idle disabled
  have empty := sound.idle_empty idle
  rw [writeSettings_eq, enablePort_of_disabled (by rw [State.setPort_get, if_pos rfl]; exact disabled), State.setPort_get,
    if_pos rfl, State.setPort_setPort]
  refine congrArg (s.setPort p) ?_
  have started : Port.tryStart { Port.settle { s.ports[p] with bitRate := rate, maxLen := maxLen } .hunt with enabled := true }
      = { Port.settle { s.ports[p] with bitRate := rate, maxLen := maxLen } .hunt with enabled := true } := by
    have queue : (Port.settle { s.ports[p] with bitRate := rate, maxLen := maxLen } .hunt).txQueue = [] := empty
    exact tryStart_of_empty queue
  rw [started]
  calc ({ Port.settle { s.ports[p] with bitRate := rate, maxLen := maxLen } .hunt with enabled := true } : Port)
      = { s.ports[p].settle .off with enabled := true, rx := .hunt, bitRate := rate, maxLen := maxLen } := rfl
    _ = { s.ports[p] with enabled := true, rx := .hunt, bitRate := rate, maxLen := maxLen } := by rw [← settled]

end PortControl

/-- Settles O57: disable, settings and enable in the order of R2. -/
theorem portControlTakesDisableSettingsEnable : Obligations.PortControlTakesDisableSettingsEnable := by
  intro s id x p code maxLen rate port executes named same sound known short answers confirmed c reception disabled
  subst same
  have index : Fin.ofNat 4 x.toNat = p := Fin.ext ((Nat.mod_eq_of_lt (by omega)).trans named)
  have low : x.toNat ≤ 3 := by omega
  have answer (enable : Byte) (t : State) (status : Status) (coded : enable.toNat ≤ 1)
      (x : controlPort (accepted s) p (byteFlag enable) rate maxLen = ⟨t, some (status, []), false⟩) :
      answers enable t status := by
    refine command_answered executes ?_
    simp only [known]
    subst index
    exact (if_pos ⟨low, coded, short⟩).trans x
  refine ⟨answer 0 _ .ok (by decide) ?off, fun shut => answer 1 _ .ok (by decide) ?on,
    fun up rateSame lenSame => answer 1 _ .ok (by decide) ?keep,
    fun up other => answer 1 _ .badState (by decide) ?refuse, fun y enable badCode long bad => ?bad⟩
  case off =>
    have taken := controlPort_disable (s := accepted s) sound rate maxLen
    rw [reportAll_eq] at taken
    refine (if_pos rfl).trans ?_
    rw [taken]
    rfl
  case on =>
    refine (if_neg (by decide)).trans ((if_pos shut).trans ?_)
    rw [controlPort_enable (s := accepted s) sound shut]
    rfl
  case keep =>
    refine (if_neg (by decide)).trans ((if_neg (by rw [show (accepted s).ports[p].enabled = true from up]; decide)).trans
      ((if_pos ⟨rateSame, lenSame⟩).trans ?_))
    rw [enablePort_of_enabled (s := accepted s) up]
    rfl
  case refuse =>
    refine (if_neg (by decide)).trans ((if_neg (by rw [show (accepted s).ports[p].enabled = true from up]; decide)).trans
      (if_neg ?_))
    rintro ⟨rateSame, lenSame⟩
    exact other.elim (· rateSame) (· lenSame)
  case bad =>
    refine command_answered executes ?_
    cases code' : BitRate.ofByte badCode with
    | none => simp only [Execution.refuse]
    | some rate' =>
      refine if_neg ?_
      rintro ⟨portLow, coded, lenLow⟩
      obtain high | high | high | high := bad
      · omega
      · omega
      · cases code'.symm.trans (bitRate_ofByte_of_unknown high)
      · omega

end Sys2Proof.Machine
end

section
/-! Proofs: the drain timer's expiry, slot by slot, and the reply it brings (R59, R61, R64, R142, R148, R149). -/

namespace Sys2Proof.Machine

open Safety

/-! ### The discard of listed CLOSED slots (R64) -/

/-- The bundle of a CLOSED slot. -/
def closedBundle : Slot → Option Bundle
  | .closed b _ _ => some b
  | _ => none

section Discard

variable {s : State} {l : List SlotNo} {n : SlotNo}

/-- The bundles of the CLOSED slots of a list, in list order. -/
def State.closedBundles (s : State) (l : List SlotNo) : List Bundle := l.filterMap fun n => closedBundle s.slots[n]

/-- What the discard of closed bundles counts (R64). -/
def CauseCounters.discarded (c : CauseCounters) (bundles : List Bundle) : CauseCounters :=
  { c with
    bundlesDiscarded := bumpBy c.bundlesDiscarded bundles.length
    recordsDiscarded := bumpBy c.recordsDiscarded (bundles.map Bundle.recordCount).sum }

theorem discardSlot_eq (idle : s.opState ≠ .run) {b : Bundle} {cause : CloseCause} {cls : BundleClass}
    (closed : s.slots[n] = .closed b cause cls) :
    discardSlot s n = { vacate (returnChain s b.chain) n cls with causes := s.causes.discarded [b] } := by
  have causes : (returnChain s b.chain).causes = s.causes := by
    unfold returnChain rearmPool
    split <;> rfl
  unfold discardSlot
  rw [closed]
  dsimp only
  rw [giveBack_of_not_run idle]
  cases cls <;> simp [vacate, causes, CauseCounters.discarded] <;> rfl

/-- The listed slots have been discarded: IDLE, chains returned in list order, bundles and records counted, nothing reported. -/
structure Discarded (s : State) (l : List SlotNo) (t : State) : Prop where
  slots : ∀ m : SlotNo, t.slots[m] = if m ∈ l then .idle else s.slots[m]
  freeList : t.freeList = s.freeList ++ (s.closedBundles l).flatMap Bundle.chain
  causes : t.causes = s.causes.discarded (s.closedBundles l)
  eventQueue : t.eventQueue = s.eventQueue
  eventNumber : t.eventNumber = s.eventNumber

theorem discarded_nil (s : State) : Discarded s [] s := ⟨fun _ => rfl, (List.append_nil _).symm, rfl, rfl, rfl⟩

theorem vacate_same (s : State) (n : SlotNo) (cls : BundleClass) : (vacate s n cls).freeList = s.freeList
    ∧ (vacate s n cls).eventQueue = s.eventQueue ∧ (vacate s n cls).eventNumber = s.eventNumber := by
  cases cls <;> exact ⟨rfl, rfl, rfl⟩

theorem discarded_one (idle : s.opState ≠ .run) {b : Bundle} {cause : CloseCause} {cls : BundleClass}
    (closed : s.slots[n] = .closed b cause cls) : Discarded s [n] (discardSlot s n) := by
  have one : s.closedBundles [n] = [b] := by
    simp only [State.closedBundles, List.filterMap_cons, closed, closedBundle, List.filterMap_nil]
  obtain ⟨freeList, eventQueue, eventNumber⟩ := vacate_same (returnChain s b.chain) n cls
  have number : (returnChain s b.chain).eventNumber = s.eventNumber := by
    unfold returnChain rearmPool
    split <;> rfl
  rw [discardSlot_eq idle closed]
  refine ⟨fun m => ?_, ?_, ?_, eventQueue.trans (returnChain_eventQueue _ _), eventNumber.trans number⟩
  · refine (vacate_slots _ n cls m).trans ?_
    simp only [returnChain_slots, List.mem_singleton]
  · rw [one, List.flatMap_singleton]
    exact freeList.trans (returnChain_freeList _ _)
  · rw [one]

theorem discarded_append {l' : List SlotNo} {t u : State} (h : Discarded s l t) (h' : Discarded t l' u)
    (apart : ∀ m ∈ l', m ∉ l) : Discarded s (l ++ l') u := by
  have kept : t.closedBundles l' = s.closedBundles l' :=
    List.filterMap_congr fun m mem => by rw [h.slots, if_neg (apart m mem)]
  have bundles : s.closedBundles (l ++ l') = s.closedBundles l ++ s.closedBundles l' := List.filterMap_append
  refine ⟨fun m => ?_, ?_, ?_, h'.eventQueue.trans h.eventQueue, h'.eventNumber.trans h.eventNumber⟩
  · rw [h'.slots, h.slots]
    simp only [List.mem_append]
    by_cases first : m ∈ l
    · simp [first]
    · simp [first]
  · rw [h'.freeList, h.freeList, kept, bundles, List.flatMap_append, List.append_assoc]
  · rw [h'.causes, h.causes, kept, bundles]
    simp only [CauseCounters.discarded, bumpBy_add, List.length_append, List.map_append, List.sum_append]

/-- The discard of a list of CLOSED slots outside RUN (R59, R64). -/
theorem discarded_of_closed (idle : s.opState ≠ .run) (nodup : l.Nodup)
    (closed : ∀ n ∈ l, ∃ b cause cls, s.slots[n] = .closed b cause cls) : Discarded s l (l.foldl discardSlot s) := by
  induction l generalizing s with
  | nil => exact discarded_nil s
  | cons n l ih =>
    obtain ⟨fresh, rest⟩ := List.nodup_cons.mp nodup
    obtain ⟨b, cause, cls, here⟩ := closed n List.mem_cons_self
    have first := discarded_one idle here
    have apart : ∀ m ∈ l, m ∉ [n] := fun m mem same => by
      obtain rfl := List.mem_singleton.mp same
      exact fresh mem
    refine discarded_append first (ih (by rwa [discardSlot_opState idle]) rest fun m mem => ?_) apart
    rw [first.slots, if_neg (apart m mem)]
    exact closed m (List.mem_cons_of_mem n mem)

theorem discardTotals_eq (closed : ∀ n ∈ s.closeExpress ++ s.closeBulk, ∃ b cause cls, s.slots[n] = .closed b cause cls) :
    discardTotals s = ((s.closedBundles (s.closeExpress ++ s.closeBulk)).length,
      ((s.closedBundles (s.closeExpress ++ s.closeBulk)).map Bundle.recordCount).sum) := by
  unfold discardTotals
  generalize s.closeExpress ++ s.closeBulk = l at closed
  induction l with
  | nil => rfl
  | cons n l ih =>
    obtain ⟨b, cause, cls, here⟩ := closed n List.mem_cons_self
    have rest := ih fun m mem => closed m (List.mem_cons_of_mem n mem)
    obtain ⟨count, records⟩ := Prod.mk.inj rest
    have more : s.closedBundles (n :: l) = b :: s.closedBundles l := by
      simp only [State.closedBundles, List.filterMap_cons, here, closedBundle]
    dsimp only
    rw [more, List.length_cons, List.length_cons, List.map_cons, List.map_cons, List.sum_cons, List.sum_cons, count, records,
      here]
    rfl

end Discard

/-! ### The Slot Table in DRAINING (R50, R51, R61) -/

section Draining

variable {s : State}

theorem closed_of_closeOrder (sound : SlotTableSound s) {n : SlotNo} (mem : n ∈ s.closeExpress ++ s.closeBulk) :
    ∃ b cause cls, s.slots[n] = .closed b cause cls := by
  have closed : ∃ cls, slotClosedFor cls s.slots[n] = true := (List.mem_append.mp mem).elim
    (fun express => ⟨.express, (sound.closeOrder_iff .express n).mp express⟩)
    fun bulk => ⟨.bulk, (sound.closeOrder_iff .bulk n).mp bulk⟩
  obtain ⟨cls, closed⟩ := closed
  cases slot : s.slots[n] with
  | closed b cause qc => exact ⟨b, cause, qc, rfl⟩
  | _ => rw [slot] at closed; cases closed

theorem closeOrders_nodup (sound : SlotTableSound s) : (s.closeExpress ++ s.closeBulk).Nodup := by
  refine List.nodup_append.mpr ⟨sound.closeOrder_nodup .express, sound.closeOrder_nodup .bulk, fun n express m bulk same => ?_⟩
  subst same
  have one := (sound.closeOrder_iff .express n).mp express
  have other := (sound.closeOrder_iff .bulk n).mp bulk
  cases slot : s.slots[n] with
  | closed b cause qc =>
    rw [slot] at one other
    cases qc
    · cases other
    · cases one
  | _ => rw [slot] at one; cases one

/-- In DRAINING a slot in no Close Order List is IDLE. -/
theorem idle_of_draining (sound : SlotTableSound s) (draining : s.opState = .draining) {n : SlotNo}
    (out : n ∉ s.closeExpress ++ s.closeBulk) : s.slots[n] = .idle := by
  cases slot : s.slots[n] with
  | idle => rfl
  | opened b idle age =>
    have opened : n ∈ s.openOrder := (sound.openOrder_iff n).mpr (by rw [slot]; rfl)
    have run := sound.open_in_run (List.ne_nil_of_mem opened)
    cases run.symm.trans draining
  | closed b cause qc =>
    have listed : n ∈ s.closeOrder qc := (sound.closeOrder_iff qc n).mpr (by rw [slot]; exact beq_self_eq_true qc)
    refine absurd (List.mem_append.mpr ?_) out
    cases qc
    · exact .inl listed
    · exact .inr listed

/-- A Slot Table all of whose slots are IDLE has empty Close Order Lists and no eviction mark. -/
theorem closeOrder_of_idle (sound : SlotTableSound s) (idle : ∀ n : SlotNo, s.slots[n] = .idle) :
    s.closeExpress = [] ∧ s.closeBulk = [] ∧ s.evictionMark = none := by
  have empty (cls : BundleClass) : s.closeOrder cls = [] := List.eq_nil_iff_forall_not_mem.mpr fun n mem => by
    have closed := (sound.closeOrder_iff cls n).mp mem
    rw [idle] at closed
    cases closed
  refine ⟨empty .express, empty .bulk, ?_⟩
  cases mark : s.evictionMark with
  | none => rfl
  | some n =>
    have evicted := (sound.mark_evicted n mark).1
    rw [idle] at evicted
    cases evicted

theorem raise_eventQueue_congr {t : State} (queue : t.eventQueue = s.eventQueue) (number : t.eventNumber = s.eventNumber)
    (config : t.config = s.config) (time : t.partTime = s.partTime) (e : Event) :
    (raise t e).eventQueue = (raise s e).eventQueue := by
  unfold raise
  rw [queue, number, config, time]
  split
  · exact queue
  · split
    · rfl
    · rfl

theorem expireDrain_of_due {d : PartTime} (draining : s.opState = .draining) (timer : s.drainTimer = some d)
    (due : reached s.partTime d = true) :
    expireDrain s = endDrain (raise (discardClosed s) (.drainDiscard (discardTotals s).1 (discardTotals s).2)) .partialEnd
      (byteOf (discardTotals s).1 :: be16 (wordOf (discardTotals s).2)) := by
  simp only [expireDrain, draining, timer, due, if_true]

theorem expireDrain_of_early {d : PartTime} (timer : s.drainTimer = some d) (early : reached s.partTime d = false) :
    expireDrain s = s := by
  unfold expireDrain
  split
  · rename_i running
    cases running.symm.trans timer
    rw [early]
    rfl
  · rfl

end Draining

/-- Settles O56: the discard slot by slot, then the event and the end of DRAINING. -/
theorem drainTimeoutDiscardsClosedSlots : Obligations.DrainTimeoutDiscardsClosedSlots := by
  intro s d before after e working sound cacheSound draining timer cache waits closed bundleOf records reply
  refine ⟨fun early => live_of_same (expireDrain_of_early timer early), fun due => ?_⟩
  have not_run : s.opState ≠ .run := by rw [draining]; decide
  have allClosed : ∀ n ∈ closed, ∃ b cause cls, s.slots[n] = .closed b cause cls := fun n mem => closed_of_closeOrder sound mem
  have discarded : Discarded s closed (discardClosed s) := discarded_of_closed not_run (closeOrders_nodup sound) allClosed
  have bundles : s.closedBundles closed = closed.filterMap bundleOf := List.filterMap_congr fun n _ => by
    simp only [bundleOf]
    cases s.slots[n] <;> rfl
  have count : (s.closedBundles closed).length = closed.length := by
    refine List.length_filterMap_eq_countP.trans (List.countP_eq_length.mpr fun n mem => ?_)
    obtain ⟨b, cause, cls, here⟩ := allClosed n mem
    simp only [here, closedBundle, Option.isSome_some]
  have totals : discardTotals s = (closed.length, records.sum) := by
    rw [discardTotals_eq allClosed]
    exact Prod.ext count (by rw [bundles])
  have idle (n : SlotNo) : (discardClosed s).slots[n] = .idle := by
    rw [discarded.slots]
    split
    · rfl
    · exact idle_of_draining sound draining ‹_›
  obtain ⟨express, bulk, mark⟩ := closeOrder_of_idle (slotTableSound_discard sound draining) idle
  have trial : TrialReach s (discardClosed s) := discardClosed_reach s
  have reach : DrainReach s (discardClosed s) := discardClosed_drainReach not_run
  let u : State := raise (discardClosed s) (.drainDiscard closed.length records.sum)
  have raised : EventReach (discardClosed s) u := raise_reach _ _
  have queue : u.controlQueue = s.controlQueue :=
    (congrArg State.controlQueue raised :).trans (congrArg State.controlQueue trial :)
  have link : u.link = s.link := (congrArg State.link raised :).trans (congrArg State.link reach :)
  have replies : u.replyCache = s.replyCache :=
    (congrArg State.replyCache raised :).trans (congrArg State.replyCache trial :)
  have one : u.replyCache.countP inProgress = 1 := by rw [replies, cacheSound.progress, if_pos draining]
  have ended := endDrain_of_split (replies.trans cache) waits one .partialEnd (byteOf closed.length :: be16 (wordOf records.sum))
  have expired : exec .drainTimerExpiry s = .next (expireDrain s) := live_of_working working expireDrain
  rw [expireDrain_of_due draining timer due, totals] at expired
  refine ⟨_, expired.trans (congrArg Host.Outcome.next ended), rfl, rfl,
    fun n => (congrArg (fun x : State => x.slots[n]) raised :).trans (idle n),
    (congrArg State.closeExpress raised :).trans express, (congrArg State.closeBulk raised :).trans bulk,
    (congrArg State.evictionMark raised :).trans mark, (congrArg State.hold raised :).trans (congrArg State.hold reach :),
    (congrArg State.expressQueue raised :).trans (congrArg State.expressQueue reach :),
    (congrArg State.bulkQueue raised :).trans (congrArg State.bulkQueue reach :),
    (congrArg State.retention raised :).trans (congrArg State.retention reach :), ?_, ?_, ?_, rfl, ?_⟩
  · rw [← bundles]
    exact (congrArg State.freeList raised :).trans discarded.freeList
  · refine (congrArg State.causes raised :).trans (discarded.causes.trans ?_)
    rw [CauseCounters.discarded, count, bundles]
  · exact raise_eventQueue_congr discarded.eventQueue discarded.eventNumber (congrArg State.config reach :)
      (congrArg State.partTime reach :) _
  · dsimp only
    unfold State.lateReply
    rw [queue, link]

end Sys2Proof.Machine
end

section
/-! Proofs: the checks a received frame passes, one by one, and the round trip of every command of the concentrator through its frame (R101, R102, R176, R178 to R181). -/

namespace Sys2Proof.Machine

open Safety

/-! ### The checks of R101 on a frame taken apart -/

section Checks

variable {unitNumber : BitVec 4} {offline : Bool} {kind unit len1 len0 : Byte} {body check : List Byte}

/-- The bytes under the check of a frame (R176). -/
def coveredBytes (kind unit len1 len0 : Byte) (body : List Byte) : List Byte := kind :: unit :: len1 :: len0 :: body

theorem receiveFrame_of_length {frame : List Byte} (h : frame.length < 8 ∨ 2104 < frame.length) :
    receiveFrame unitNumber offline frame = .error .badLength := if_pos h

theorem receiveFrame_of_split (four : check.length = 4)
    (fits : (coveredBytes kind unit len1 len0 body ++ check).length ≤ 2104) :
    receiveFrame unitNumber offline (coveredBytes kind unit len1 len0 body ++ check) =
      if check ≠ be32 (crc32 (coveredBytes kind unit len1 len0 body)) then .error .badCheck
      else if ¬ takenKinds.contains kind then .error .unknownKind
      else if (word16 len1 len0).toNat ≠ (coveredBytes kind unit len1 len0 body ++ check).length then .error .badLength
      else match parseBody kind body with
        | none => .error .badLength
        | some i =>
          if unit ≠ unitNumber.setWidth 8 then .error .wrongUnit
          else if offline = true ∧ i ≠ .sync then .error .inOffline
          else .ok i := by
  have place : (coveredBytes kind unit len1 len0 body ++ check).length - 4 = (coveredBytes kind unit len1 len0 body).length := by
    rw [List.length_append, four, Nat.add_sub_cancel]
  have long : ¬ ((coveredBytes kind unit len1 len0 body ++ check).length < 8
      ∨ 2104 < (coveredBytes kind unit len1 len0 body ++ check).length) := by
    rw [List.length_append, four] at fits ⊢
    simp only [coveredBytes, List.length_cons] at fits ⊢
    omega
  unfold receiveFrame
  rw [if_neg long, place, List.take_left, List.drop_left]
  rfl

end Checks

theorem ite_ne {α : Type} {c : Prop} [Decidable c] {a b x : α} (left : a ≠ x) (right : b ≠ x) :
    (if c then a else b) ≠ x := by
  split
  · exact left
  · exact right

/-- No management request is read as SYNC. -/
theorem parseRequest_ne_sync (id : Word16) (code : Byte) (ps : List Byte) : parseRequest id code ps ≠ some .sync := by
  unfold parseRequest
  repeat' apply ite_ne
  any_goals (split <;> simp)
  exact nofun

/-- Only the SYNC kind is read as SYNC. -/
theorem kind_of_parseBody_sync {kind : Byte} {body : List Byte} (h : parseBody kind body = some .sync) : kind = kindSync := by
  by_contra other
  refine absurd h ?_
  unfold parseBody
  rw [if_neg other]
  repeat' apply ite_ne
  · split <;> exact nofun
  · split <;> exact nofun
  · split
    · exact parseRequest_ne_sync _ _ _
    · exact nofun
  · split
    · exact ite_ne (by simp) nofun
    · exact nofun

/-! ### Commands read back from their bodies (R178 to R181) -/

theorem word16_be16 (w : Word16) : word16 (w.extractLsb' 8 8) (w.extractLsb' 0 8) = w := by
  refine BitVec.eq_of_getLsbD_eq fun i hi => ?_
  simp only [word16, BitVec.getLsbD_append, BitVec.getLsbD_extractLsb']
  split
  · simp [*]
  · rename_i high
    have low : i - 8 < 8 := by omega
    simp only [low, decide_true, Bool.true_and, Nat.add_sub_cancel' (Nat.le_of_not_lt high)]

/-- The frame of a well-formed command is read back as that command. -/
def ReadBack (i : Instr) : Prop := ∀ kb, i.kindAndBody = some kb → i.wellFormed = true → parseBody kb.1 kb.2 = some i

theorem readBack_of_none {i : Instr} (none : i.kindAndBody = none) : ReadBack i := fun kb carried _ => by
  rw [none] at carried
  cases carried

theorem readBack_of_body {i : Instr} {kind : Byte} {body : List Byte} (carried : i.kindAndBody = some (kind, body))
    (parsed : i.wellFormed = true → parseBody kind body = some i) : ReadBack i := fun kb same well => by
  cases carried.symm.trans same
  exact parsed well

theorem parseBody_request (id : Word16) (code : Byte) (params : List Byte) :
    parseBody kindMgmtRequest (requestBody id code params) = parseRequest id code params := by
  refine Eq.trans ?_ (congrArg (parseRequest · code params) (word16_be16 id))
  rfl

theorem readBack_of_request {i : Instr} {id : Word16} {code : Byte} {params : List Byte}
    (carried : i.kindAndBody = some (kindMgmtRequest, requestBody id code params))
    (parsed : i.wellFormed = true → parseRequest id code params = some i) : ReadBack i :=
  readBack_of_body carried fun well => (parseBody_request id code params).trans (parsed well)

theorem byteOf_toNat {n : Nat} (h : n < 256) : (byteOf n).toNat = n := by
  rw [byteOf, BitVec.toNat_ofNat, Nat.mod_eq_of_lt h]

theorem parseEntries_bytes (es : List DispatchEntry) (short : ∀ e ∈ es, e.payload.length ≤ 120) :
    parseEntries es.length (es.flatMap DispatchEntry.bytes) = some es := by
  induction es with
  | nil => rfl
  | cons e es ih =>
    have here := short e List.mem_cons_self
    have length : (byteOf e.payload.length).toNat = e.payload.length := byteOf_toNat (by omega)
    have rest := ih fun e' mem => short e' (List.mem_cons_of_mem e mem)
    have fits : e.payload.length ≤ 120
        ∧ e.payload.length ≤ (e.payload ++ es.flatMap DispatchEntry.bytes).length := ⟨here, by simp⟩
    simp only [List.flatMap_cons, List.length_cons, DispatchEntry.bytes, List.cons_append, parseEntries, length, fits,
      and_self, if_true, List.drop_left, List.take_left, rest, Option.map_some]

theorem readBack_dispatch (seq : Word16) (es : List DispatchEntry) : ReadBack (.dispatch seq es) :=
  readBack_of_body rfl fun well => by
    simp only [Instr.wellFormed, dispatchLengthRule, Bool.and_eq_true, decide_eq_true_eq, List.all_eq_true,
      DispatchEntry.wellFormed] at well
    obtain ⟨⟨some_entry, at_most⟩, short⟩ := well
    have count : (byteOf es.length).toNat = es.length := byteOf_toNat (by omega)
    have parsed : parseBody kindDispatch (be16 seq ++ (byteOf es.length :: es.flatMap DispatchEntry.bytes))
        = if 1 ≤ (byteOf es.length).toNat ∧ (byteOf es.length).toNat ≤ 8 then
            (parseEntries (byteOf es.length).toNat (es.flatMap DispatchEntry.bytes)).map
              (.dispatch (word16 (seq.extractLsb' 8 8) (seq.extractLsb' 0 8)))
          else none := rfl
    rw [parsed, count, if_pos ⟨some_entry, at_most⟩, parseEntries_bytes es short, word16_be16]
    rfl

theorem readBack_setConfig (id : Word16) (r : ConfigRecord) : ReadBack (.setConfig id r) :=
  readBack_of_request rfl fun _ => by
    have parsed : parseRequest id codeSetConfig r.bytes = some (.setConfig id { r with
        paceWindow := word16 (r.paceWindow.extractLsb' 8 8) (r.paceWindow.extractLsb' 0 8)
        ackTimeout := word16 (r.ackTimeout.extractLsb' 8 8) (r.ackTimeout.extractLsb' 0 8)
        poolLowMark := word16 (r.poolLowMark.extractLsb' 8 8) (r.poolLowMark.extractLsb' 0 8)
        eventMask := word16 (r.eventMask.extractLsb' 8 8) (r.eventMask.extractLsb' 0 8) }) := rfl
    rw [parsed, word16_be16, word16_be16, word16_be16, word16_be16]

theorem readBack_writeProfile (id : Word16) (p : Byte) (r : ProfileRecord) : ReadBack (.writeProfile id p r) :=
  readBack_of_request rfl fun _ => by
    have parsed : parseRequest id codeWriteProfile (p :: r.bytes) = some (.writeProfile id p { r with
        destination := word16 (r.destination.extractLsb' 8 8) (r.destination.extractLsb' 0 8)
        byteLimit := word16 (r.byteLimit.extractLsb' 8 8) (r.byteLimit.extractLsb' 0 8)
        idleTime := word16 (r.idleTime.extractLsb' 8 8) (r.idleTime.extractLsb' 0 8)
        ageLimit := word16 (r.ageLimit.extractLsb' 8 8) (r.ageLimit.extractLsb' 0 8) }) := rfl
    rw [parsed, word16_be16, word16_be16, word16_be16, word16_be16]

theorem readBack_writeTemplate (id : Word16) (template length : Byte) (bytes : List Byte) :
    ReadBack (.writeTemplate id template length bytes) :=
  readBack_of_request rfl fun well => by
    have parsed : parseRequest id codeWriteTemplate (template :: length :: bytes)
        = if bytes.length = length.toNat then some (.writeTemplate id template length bytes) else none := rfl
    rw [parsed, if_pos (of_decide_eq_true well)]

theorem readBack_quiesce (id timeout : Word16) : ReadBack (.quiesce id timeout) :=
  readBack_of_request rfl fun _ => by
    have parsed : parseRequest id codeQuiesce (be16 timeout)
        = some (.quiesce id (word16 (timeout.extractLsb' 8 8) (timeout.extractLsb' 0 8))) := rfl
    rw [parsed, word16_be16]

theorem readBack_unknownCommand (id : Word16) (code : Byte) (params : List Byte) :
    ReadBack (.unknownCommand id code params) :=
  readBack_of_request rfl fun well => by
    simp only [Instr.wellFormed, unknownCode, commandCodes, Bool.and_eq_true, Bool.not_eq_true', List.contains_cons,
      Bool.or_eq_false_iff, beq_eq_false_iff_ne, ne_eq] at well
    simp only [parseRequest, well, if_false]

/-- Every command of the concentrator is read back from its frame's body. -/
theorem readBack (i : Instr) : ReadBack i := by
  cases i with
  | sync => exact readBack_of_body rfl fun _ => rfl
  | bundleAck seq => exact readBack_of_body rfl fun _ => congrArg (fun w => some (Instr.bundleAck w)) (word16_be16 seq)
  | bundleNak seq => exact readBack_of_body rfl fun _ => congrArg (fun w => some (Instr.bundleNak w)) (word16_be16 seq)
  | dispatch seq es => exact readBack_dispatch seq es
  | setConfig id r => exact readBack_setConfig id r
  | writeProfile id p r => exact readBack_writeProfile id p r
  | writeTemplate id template length bytes => exact readBack_writeTemplate id template length bytes
  | quiesce id timeout => exact readBack_quiesce id timeout
  | unknownCommand id code params => exact readBack_unknownCommand id code params
  | identify | readStatus | readSlots | getConfig | writeMatch | readMatch | commitMatch | readProfile | readTemplate
  | flush | resume | portControl | readPort | readCounters | resetPart => exact readBack_of_request rfl fun _ => rfl
  | _ => exact readBack_of_none rfl

/-- The kind and the length of the frame of every well-formed command (R101, R176). -/
theorem carried (i : Instr) : Laws.Carried.Statement i := by
  cases i with
  | sync => exact Laws.Carried.sync
  | bundleAck seq => exact Laws.Carried.bundleAck seq
  | bundleNak seq => exact Laws.Carried.bundleNak seq
  | dispatch seq es => exact Laws.Carried.dispatch seq es
  | identify id => exact Laws.Carried.identify id
  | readStatus id => exact Laws.Carried.readStatus id
  | readSlots id => exact Laws.Carried.readSlots id
  | getConfig id => exact Laws.Carried.getConfig id
  | setConfig id r => exact Laws.Carried.setConfig id r
  | writeMatch id x r => exact Laws.Carried.writeMatch id x r
  | readMatch id x bank => exact Laws.Carried.readMatch id x bank
  | commitMatch id => exact Laws.Carried.commitMatch id
  | writeProfile id p r => exact Laws.Carried.writeProfile id p r
  | readProfile id p => exact Laws.Carried.readProfile id p
  | writeTemplate id x length bytes => exact Laws.Carried.writeTemplate id x length bytes
  | readTemplate id x => exact Laws.Carried.readTemplate id x
  | flush id p => exact Laws.Carried.flush id p
  | quiesce id timeout => exact Laws.Carried.quiesce id timeout
  | resume id => exact Laws.Carried.resume id
  | portControl id p enable rate length => exact Laws.Carried.portControl id p enable rate length
  | readPort id p => exact Laws.Carried.readPort id p
  | readCounters id group p first count clear => exact Laws.Carried.readCounters id group p first count clear
  | resetPart id level => exact Laws.Carried.resetPart id level
  | unknownCommand id code params => exact Laws.Carried.unknownCommand id code params
  | _ => exact Laws.Carried.of_none rfl

/-- Settles O47: the checks in their order, the last one by the round trip of the body. -/
theorem everyTrunkCommandIsReadBack : Obligations.EveryTrunkCommandIsReadBack := by
  intro i unit frame well framed
  obtain ⟨⟨kind, body⟩, kindAndBody, frame_eq⟩ := Option.map_eq_some_iff.mp framed
  obtain ⟨taken, short⟩ := carried i _ kindAndBody well
  dsimp only at taken short frame_eq
  have size : (body.length + 8) < 2 ^ 16 := by omega
  let high : Byte := (wordOf (body.length + 8)).extractLsb' 8 8
  let low : Byte := (wordOf (body.length + 8)).extractLsb' 0 8
  let covered := coveredBytes kind (unit.setWidth 8) high low body
  have whole : frame = covered ++ be32 (crc32 covered) := frame_eq.symm
  have length : (covered ++ be32 (crc32 covered)).length = body.length + 8 := List.length_append
  have total : (word16 high low).toNat = (covered ++ be32 (crc32 covered)).length := by
    rw [length, word16_be16, wordOf, BitVec.toNat_ofNat, Nat.mod_eq_of_lt size]
  have parsed : parseBody kind body = some i := readBack i _ kindAndBody well
  rw [whole, receiveFrame_of_split rfl (by rw [length]; omega), if_neg (not_not_intro rfl), if_neg (not_not_intro taken),
    if_neg (not_not_intro total), parsed]
  dsimp only
  rw [if_neg (not_not_intro rfl), if_neg (by simp)]

/-! ### A frame that fails a check (R101) -/

section Fails

variable {s : State}

theorem exec_trunkFrameDiscard_of_working (working : s.held = false) (carrier : s.carrier = true) (frame : List Byte) :
    exec (.trunkFrameDiscard frame) s = .next (match receiveFrame s.unitNumber (s.link == .offline) frame with
      | .ok _ => s
      | .error why => { s with trunk := s.trunk.countDiscard why }) := by
  have answer : exec (.trunkFrameDiscard frame) s = .next (discardFrame s frame) :=
    live_of_working working fun s => discardFrame s frame
  rw [answer, discardFrame, carrier]
  rfl

theorem discards_of_error {frame : List Byte} {why : RxDiscard} (working : s.held = false) (carrier : s.carrier = true)
    (fails : receiveFrame s.unitNumber (s.link == .offline) frame = .error why) :
    exec (.trunkFrameDiscard frame) s = .next { s with trunk := s.trunk.countDiscard why } := by
  rw [exec_trunkFrameDiscard_of_working working carrier, fails]

/-- Without carrier no gate of reception lets a frame through (log 6). -/
theorem live_received_of_no_carrier (carrier : s.carrier = false) (f : State → State) :
    live s (fun t => received t f) = .next s :=
  live_of_same (by simp only [received, carrier, Bool.not_false, if_true])

theorem countBadLength_of_no_carrier (carrier : s.carrier = false) : countBadLength s = s := by
  simp only [countBadLength, carrier, Bool.not_false, if_true]

/-- A command of the concentrator that reaches a part without carrier (log 6). -/
theorem exec_of_no_carrier (carrier : s.carrier = false) {i : Instr} (framed : i.kindAndBody ≠ none) :
    exec i s = .next s := by
  have command (id : Word16) (code : Byte) (run : State → Execution) : command s id code run = .next s :=
    live_received_of_no_carrier carrier _
  cases i with
  | sync => exact live_of_same (takeSync_of_no_carrier carrier)
  | bundleAck | bundleNak => exact live_received_of_no_carrier carrier _
  | dispatch seq es =>
    refine live_of_same (f := fun s =>
      if dispatchLengthRule es then received s fun s => takeDispatch s seq es else countBadLength s) ?_
    split
    · simp only [received, carrier, Bool.not_false, if_true]
    · exact countBadLength_of_no_carrier carrier
  | writeTemplate id x length bytes =>
    have answer : exec (.writeTemplate id x length bytes) s = execWriteTemplate id x length bytes s := rfl
    rw [answer, execWriteTemplate]
    split
    · exact command _ _ _
    · exact live_of_same (countBadLength_of_no_carrier carrier)
  | unknownCommand id code params =>
    have answer : exec (.unknownCommand id code params) s = execUnknownCommand id code params s := rfl
    rw [answer, execUnknownCommand]
    split
    · exact live_of_same (countBadLength_of_no_carrier carrier)
    · split
      · exact command _ _ _
      · rfl
  | identify | readStatus | readSlots | getConfig | setConfig | writeMatch | readMatch | commitMatch | writeProfile
  | readProfile | readTemplate | flush | quiesce | resume | portControl | readPort | readCounters | resetPart =>
    exact command _ _ _
  | _ => exact absurd rfl framed

end Fails

/-- Settles O46: the first check that fails, in the order of R101. -/
theorem failedFrameIsCountedOnce : Obligations.FailedFrameIsCountedOnce := by
  refine ⟨fun s carrier => ⟨fun frame => live_of_same (f := fun s => discardFrame s frame) ?_, fun i unit frame framed => exec_of_no_carrier carrier fun none => ?_⟩,
    ?_⟩
  · simp only [discardFrame, carrier, Bool.not_false, if_true]
  · rw [Instr.frame, none] at framed
    cases framed
  · intro s kind unit len1 len0 body check working carrier covered frame discards counters
    refine ⟨fun short past => discards_of_error working carrier (receiveFrame_of_length past), fun four fits => ?_⟩
    have received := receiveFrame_of_split (unitNumber := s.unitNumber) (offline := s.link == .offline) (kind := kind)
      (unit := unit) (len1 := len1) (len0 := len0) (body := body) four fits
    have fails {why : RxDiscard} (error : receiveFrame s.unitNumber (s.link == .offline)
        (coveredBytes kind unit len1 len0 body ++ check) = .error why) : discards (s.trunk.countDiscard why) :=
      discards_of_error working carrier error
    refine ⟨fun bad => fails (why := .badCheck) (received.trans (if_pos bad)), fun good => ?_⟩
    rw [if_neg (not_not_intro (show check = be32 (crc32 (coveredBytes kind unit len1 len0 body)) from good))] at received
    have taken_iff : takenKinds.contains kind = true ↔ kind ∈ [0x81#8, 0x82#8, 0x83#8, 0x84#8, 0x85#8] :=
      List.contains_iff_mem
    refine ⟨fun unknown => fails (why := .unknownKind) (received.trans (if_pos fun taken => unknown (taken_iff.mp taken))),
      fun known => ?_⟩
    rw [if_neg (not_not_intro (taken_iff.mpr known))] at received
    refine ⟨fun bad => fails (why := .badLength) (received.trans ?_), fun i total parsed => ?_⟩
    · by_cases total : (word16 len1 len0).toNat = (coveredBytes kind unit len1 len0 body ++ check).length
      · rw [if_neg (not_not_intro total), bad.resolve_left (not_not_intro total)]
      · rw [if_pos total]
    · have total : (word16 len1 len0).toNat = (coveredBytes kind unit len1 len0 body ++ check).length := total
      rw [if_neg (not_not_intro total), parsed] at received
      dsimp only at received
      refine ⟨fun other => fails (why := .wrongUnit) (received.trans (if_pos other)), fun own offline notSync =>
        fails (why := .inOffline) ?_⟩
      have other : i ≠ .sync := by
        rintro rfl
        exact notSync (kind_of_parseBody_sync parsed)
      rw [received, if_neg (not_not_intro own), if_pos ⟨by rw [offline]; rfl, other⟩]

end Sys2Proof.Machine
end

section
/-! Proofs: the layout of every frame the part sends (R71, R128, R175 to R182). -/

namespace Sys2Proof.Machine

open Safety

section Layout

variable {s : State} {x : Transmission} {kind : Byte} {body : List Byte}

/-- The bytes of a frame on the trunk around its body (R176). -/
def State.sentFrame (s : State) (kind : Byte) (body : List Byte) : List Byte :=
  let covered := [kind, s.unitNumber.setWidth 8] ++ be16 (wordOf (body.length + 8)) ++ body
  covered ++ be32 (crc32 covered)

theorem txBytes_of_body (sends : s.tx = some x) (layout : x.kindAndBody s.blockMem = (kind, body)) :
    s.txBytes = some (s.sentFrame kind body) := by
  rw [State.txBytes, sends, Option.map_some, layout]
  rfl

theorem sentFrame_length (s : State) (kind : Byte) (body : List Byte) : (s.sentFrame kind body).length = body.length + 8 := by
  simp only [State.sentFrame, be16, be32, List.length_append, List.length_cons, List.length_nil]
  omega

theorem readContent_length (m : Memory) (chain : List BlockNo) (n : Nat) : (readContent m chain n).length = n := by
  simp only [readContent, List.length_map, List.length_range]

/-- Class and close cause in one byte of the bundle header (R49, R177). -/
theorem classCause_byte (cls : BundleClass) (cause : CloseCause) :
    (match cls with | .express => 0x80#8 | .bulk => 0#8) ||| byteOf cause.code
      = BitVec.ofBool (cls == .express) ++ 0#3 ++ BitVec.ofNat 4 cause.code := by
  cases cls <;> cases cause <;> rfl

/-- Stamp and retransmit flag in one byte of the bundle header (R177). -/
theorem flags_byte (retransmit stamp : Bool) :
    (if retransmit then 1#8 else 0#8) ||| (if stamp then 2#8 else 0#8) = 0#6 ++ BitVec.ofBool stamp ++ BitVec.ofBool retransmit := by
  cases retransmit <;> cases stamp <;> rfl

theorem header_length (f : BundleTx) : f.header.length = 16 := rfl

theorem bundleBody_length (m : Memory) (f : BundleTx) :
    (f.body m).length = 16 + (f.desc.templateLength + f.desc.bodyBytes) := by
  rw [BundleTx.body, List.length_append, header_length, readContent_length]

end Layout

/-- Settles O60: the body of each kind, then the frame around it. -/
theorem sentFramesHaveTheirLayout : Obligations.SentFramesHaveTheirLayout := by
  refine ⟨fun s x sends => ?_, fun r => rfl, fun t index stamp => ?_⟩
  · intro sent hello event
    have sendsBody {kind : Byte} {body : List Byte} (layout : x.kindAndBody s.blockMem = (kind, body)) : sent kind body :=
      txBytes_of_body sends layout
    have helloBytes (h : HelloFields) : h.bytes = hello h := by
      obtain ⟨cause, _, _, _⟩ := h
      cases cause <;> rfl
    cases x with
    | hello h => exact sendsBody (congrArg (Prod.mk _) (helloBytes h))
    | event r lost =>
      have codes : byteOf r.event.code = (event r.event).1 ∧ r.event.params = (event r.event).2 := by
        cases r.event with
        | undelivered p node channel seq index reason => cases reason <;> exact ⟨rfl, rfl⟩
        | _ => exact ⟨rfl, rfl⟩
      refine sendsBody (congrArg (Prod.mk _) ?_)
      rw [eventBody, codes.1, codes.2]
    | control e =>
      obtain ⟨frame, awaited⟩ := e
      cases frame with
      | mgmtReply r =>
        obtain ⟨id, code, status, result⟩ := r
        cases status <;> exact sendsBody rfl
      | syncAck h expected => exact sendsBody (congrArg (fun bytes => (_, bytes ++ be16 expected)) (helloBytes h))
      | dispatchAck seq room => exact sendsBody rfl
      | dispatchNak expected reason index room => cases reason <;> exact sendsBody rfl
    | bundle f =>
      have body : f.body s.blockMem = be16 f.seq ++ be16 f.desc.destination
          ++ [byteOf f.desc.profile.val, BitVec.ofBool (f.desc.queueClass == .express) ++ 0#3 ++ BitVec.ofNat 4 f.desc.cause.code,
            byteOf f.desc.recordCount, byteOf f.retry, byteOf f.desc.templateLength,
            0#6 ++ BitVec.ofBool f.desc.stamp ++ BitVec.ofBool f.retransmit]
          ++ be16 (wordOf f.desc.bodyBytes) ++ be32 f.desc.openTime
          ++ readContent s.blockMem f.desc.chain (f.desc.templateLength + f.desc.bodyBytes) := by
        rw [← classCause_byte, ← flags_byte]
        rfl
      refine ⟨?_, ?_, fun sound => ?_⟩
      · have cause : BitVec.ofNat 4 f.desc.cause.code = match f.desc.cause with
            | .recordLimit => (1 : BitVec 4) | .byteLimit => 2 | .endFlag => 3 | .urgent => 4 | .idleTimeout => 5
            | .ageTimeout => 6 | .flush => 7 | .evicted => 8 | .quiesce => 9 | .poolEmpty => 10 | .profileChanged => 11 := by
          cases f.desc.cause <;> rfl
        rw [cause] at body
        exact sendsBody (congrArg (Prod.mk _) body)
      · have layout : Transmission.kindAndBody s.blockMem (.bundle f) = (0x01, f.body s.blockMem) := rfl
        rw [txBytes_of_body sends layout, Option.map_some, sentFrame_length, bundleBody_length]
        congr 1
        omega
      · have template := sound.template_le
        have bytes := sound.bytes_le
        omega
  · cases stamp <;> rfl

end Sys2Proof.Machine
end
